-- ==== Sys2Proof/Word.lean ====
section
/-! DEFINITION. The word types of the block: 32-bit frames and counters, 8-bit command words, 5-bit event vectors.
Every value is unsigned and bit 0 is the least significant (spec/00_scope.md, section 5). -/

namespace Sys2Proof

/-- A 32-bit register value: `acc`, `cur`, `last`, `view_frame`, `rsp_data` and the three tick counters
(R18, R20, R21, R30 to R34; parameter `W` and `TIMER_W` of R6). -/
abbrev Word := BitVec 32

/-- A command word `cmd[7:0]` (R61). -/
abbrev CommandWord := BitVec 8

/-- An event vector `E` with rst_fall in bit 4, go_rise in bit 3, latch_rise in bit 2, clk_rise in bit 1 and
data_bit in bit 0 (R60). -/
abbrev EventVector := BitVec 5

/-- An indicator pattern, `LED_W` = 8 bits (R6, R115). -/
abbrev Pattern := BitVec 8

end Sys2Proof
end

