-- ==== Sys2Proof/Syntax.lean ====
section
/-! DEFINITION. The instructions of spec/opcode_table.json (14 commands and 4 events), their assembler text
(R72) and the pseudo-instructions of R73. -/

namespace Sys2Proof

/-- One constructor per row of spec/opcode_table.json: the 14 commands of R63 and the 4 events of R60. -/
inductive Instr where
  /-- No operation (R127). -/
  | nop
  /-- Read and clear `pending` (R89). -/
  | newpkt
  /-- Read `cur` (R90). -/
  | rdcap
  /-- Read `last` (R91). -/
  | rdlast
  /-- Read `cur != last` (R92). -/
  | chg
  /-- Read the GO latch (R97). -/
  | rdgo
  /-- Clear the GO latch (R98). -/
  | clrgo
  /-- Read the RESET latch (R99). -/
  | rdrst
  /-- Clear the RESET latch (R100). -/
  | clrrst
  /-- Enable the sampler (R82). -/
  | sen
  /-- Disable the sampler (R83). -/
  | sdis
  /-- Read the status word (R126). -/
  | stat
  /-- Start a session; `s` is the value for `cfg_skip_burn`, `g` the value for `cfg_require_go` (R62, R125). -/
  | start (s g : Bool)
  /-- Read the accumulator (R84). -/
  | rdacc
  /-- A CLOCK rising edge with the DATA level `d` (R77). -/
  | clkRise (d : Bool)
  /-- A LATCH rising edge (R78). -/
  | latchRise
  /-- A rising edge of GO (R94). -/
  | goRise
  /-- A falling edge of RESET (R95). -/
  | resetFall
  deriving DecidableEq, Repr

/-- The rows of format CMD: a word on the command port (R61, R63). The other four are events (R60). -/
def Instr.isCommand : Instr → Bool
  | .nop => true
  | .newpkt => true
  | .rdcap => true
  | .rdlast => true
  | .chg => true
  | .rdgo => true
  | .clrgo => true
  | .rdrst => true
  | .clrrst => true
  | .sen => true
  | .sdis => true
  | .stat => true
  | .start _ _ => true
  | .rdacc => true
  | .clkRise _ => false
  | .latchRise => false
  | .goRise => false
  | .resetFall => false

/-- The column "mutating" of R63: the commands refused with `ERR_BUSY` while a session is active. -/
def Instr.mutating : Instr → Bool
  | .nop => false
  | .newpkt => true
  | .rdcap => false
  | .rdlast => false
  | .chg => false
  | .rdgo => false
  | .clrgo => true
  | .rdrst => false
  | .clrrst => true
  | .sen => true
  | .sdis => true
  | .stat => false
  | .start _ _ => true
  | .rdacc => false
  | .clkRise _ => false
  | .latchRise => false
  | .goRise => false
  | .resetFall => false

/-- The mnemonic of R63 and of spec/opcode_table.json, letter for letter. -/
def Instr.mnemonic : Instr → String
  | .nop => "NOP"
  | .newpkt => "NEWPKT"
  | .rdcap => "RDCAP"
  | .rdlast => "RDLAST"
  | .chg => "CHG"
  | .rdgo => "RDGO"
  | .clrgo => "CLRGO"
  | .rdrst => "RDRST"
  | .clrrst => "CLRRST"
  | .sen => "SEN"
  | .sdis => "SDIS"
  | .stat => "STAT"
  | .start _ _ => "START"
  | .rdacc => "RDACC"
  | .clkRise _ => "CLK_RISE"
  | .latchRise => "LATCH_RISE"
  | .goRise => "GO_RISE"
  | .resetFall => "RESET_FALL"

/-- The digit of a START operand in the assembler text (R72). -/
def operandText (b : Bool) : String := if b then "1" else "0"

/-- The assembler line of a command (R72): the mnemonic, and for START its two operands. -/
def Instr.text : Instr → String
  | .start s g => "START " ++ operandText s ++ ", " ++ operandText g
  | i => i.mnemonic

/-- The pseudo-instructions of R73. -/
inductive Pseudo where
  | clrall
  | poll
  | wait (n : Nat)
  deriving DecidableEq, Repr

/-- R73: what a pseudo-instruction issues in consecutive cycles. `none` is a cycle with `cmd_valid == 0`. -/
def Pseudo.expand : Pseudo → List (Option Instr)
  | .clrall => [some .clrgo, some .clrrst]
  | .poll => [some .newpkt, some .rdcap]
  | .wait n => List.replicate n none

/-- One line of an event-level program (R74): the event vector given directly as `ev(clk(d), latch, go, rst)`, and
the sync inputs of the cycle. -/
structure EventLine where
  /-- `clk(d)`: a CLOCK rising edge with `data_bit = d`. -/
  clk : Option Bool := none
  /-- A LATCH rising edge. -/
  latch : Bool := false
  /-- A GO rising edge. -/
  go : Bool := false
  /-- A RESET falling edge. -/
  rst : Bool := false
  /-- `rst_n`, 1 by default. -/
  rstN : Bool := true
  /-- `tick`. -/
  tick : Bool := false
  /-- The word on the command port, with `cmd_valid = 1`, if there is one. -/
  cmd : Option CommandWord := none
  /-- `flash_done`. -/
  flashDone : Bool := false
  /-- `flash_ok`. -/
  flashOk : Bool := false
  deriving DecidableEq, Repr

end Sys2Proof
end

