-- ==== Sys2Proof/Decode.lean ====
section
/-! DEFINITION. The decoder of the command port, total on all 256 words and rejecting by name (R64, R65), the
reader of an event vector (R60), and after them the encoder (R72, R60). -/

namespace Sys2Proof

/-! ### The decoder -/

/-- Why a command word is reserved (R64), in the order in which R65 tests the reasons. -/
inductive ReservedReason where
  /-- (b) `cmd[7:6] != 0`. -/
  | highBits
  /-- (a) `op` is 0xE or 0xF. -/
  | opcode
  /-- (c) `cmd[5:4] != 0` on a word that is not START. -/
  | argumentBits
  deriving DecidableEq, Repr

/-- What the decoder makes of a command word. -/
inductive Decoded where
  | command (i : Instr)
  | reserved (why : ReservedReason)
  deriving DecidableEq, Repr

/-- `op = cmd[3:0]` (R61). -/
def opField (w : CommandWord) : BitVec 4 := w.extractLsb' 0 4

/-- `cmd[5:4]`, the START arguments (R61). -/
def argField (w : CommandWord) : BitVec 2 := w.extractLsb' 4 2

/-- `rsv = cmd[7:6]` (R61). -/
def rsvField (w : CommandWord) : BitVec 2 := w.extractLsb' 6 2

/-- `s = cmd[4]`, the value for `cfg_skip_burn` (R61, R62). -/
def skipBurnBit (w : CommandWord) : Bool := w.getLsbD 4

/-- `g = cmd[5]`, the value for `cfg_require_go` (R61, R62). -/
def requireGoBit (w : CommandWord) : Bool := w.getLsbD 5

/-- The opcode map of R63, with the START arguments at hand. -/
def decodeOpcode (op : BitVec 4) (s g : Bool) : Decoded :=
  match op.toNat with
  | 0x0 => .command .nop
  | 0x1 => .command .newpkt
  | 0x2 => .command .rdcap
  | 0x3 => .command .rdlast
  | 0x4 => .command .chg
  | 0x5 => .command .rdgo
  | 0x6 => .command .clrgo
  | 0x7 => .command .rdrst
  | 0x8 => .command .clrrst
  | 0x9 => .command .sen
  | 0xA => .command .sdis
  | 0xB => .command .stat
  | 0xC => .command (.start s g)
  | 0xD => .command .rdacc
  | _ => .reserved .opcode

/-- The decoder of R65, total on all 256 words. -/
def decodeCommand (w : CommandWord) : Decoded :=
  if rsvField w ≠ 0 then .reserved .highBits
  else if opField w = 0xE ∨ opField w = 0xF then .reserved .opcode
  else if opField w ≠ 0xC ∧ argField w ≠ 0 then .reserved .argumentBits
  else decodeOpcode (opField w) (skipBurnBit w) (requireGoBit w)

/-- The command a word stands for, if any. -/
def commandOf (w : CommandWord) : Option Instr :=
  match decodeCommand w with
  | .command i => some i
  | .reserved _ => none

/-- The events of an event vector (R60), lowest bit first. Any subset may hold in one cycle. `E[0]` matters only
with `E[1]`. -/
def decodeEvents (e : EventVector) : List Instr :=
  (if e.getLsbD 1 then [.clkRise (e.getLsbD 0)] else []) ++
  (if e.getLsbD 2 then [.latchRise] else []) ++
  (if e.getLsbD 3 then [.goRise] else []) ++
  (if e.getLsbD 4 then [.resetFall] else [])

/-- An encoded instruction: a word on the command port, or an event vector. The two spaces are separate: the
word 0x02 is RDCAP on the command port and CLK_RISE in the event vector. -/
inductive Encoded where
  | command (w : CommandWord)
  | events (e : EventVector)
  deriving DecidableEq, Repr

/-- The instruction an encoding stands for; of an event vector with several events, the first of
`decodeEvents`. -/
def decode : Encoded → Option Instr
  | .command w => commandOf w
  | .events e => (decodeEvents e).head?

/-! ### The encoder -/

/-- A command's word (R72): 00, then `g`, then `s`, then the opcode. -/
def commandWord (op : BitVec 4) (s g : Bool) : CommandWord :=
  0#2 ++ BitVec.ofBool g ++ BitVec.ofBool s ++ op

/-- An event vector (R60) from its five signals, rst_fall first. -/
def eventVector (rst go latch clk data : Bool) : EventVector :=
  BitVec.ofBool rst ++ BitVec.ofBool go ++ BitVec.ofBool latch ++ BitVec.ofBool clk ++ BitVec.ofBool data

/-- The encoding of an instruction: R63 and R72 for a command, R60 for an event that happens alone. -/
def encode : Instr → Encoded
  | .nop => .command (commandWord 0x0 false false)
  | .newpkt => .command (commandWord 0x1 false false)
  | .rdcap => .command (commandWord 0x2 false false)
  | .rdlast => .command (commandWord 0x3 false false)
  | .chg => .command (commandWord 0x4 false false)
  | .rdgo => .command (commandWord 0x5 false false)
  | .clrgo => .command (commandWord 0x6 false false)
  | .rdrst => .command (commandWord 0x7 false false)
  | .clrrst => .command (commandWord 0x8 false false)
  | .sen => .command (commandWord 0x9 false false)
  | .sdis => .command (commandWord 0xA false false)
  | .stat => .command (commandWord 0xB false false)
  | .start s g => .command (commandWord 0xC s g)
  | .rdacc => .command (commandWord 0xD false false)
  | .clkRise d => .events (eventVector false false false true d)
  | .latchRise => .events (eventVector false false true false false)
  | .goRise => .events (eventVector false true false false false)
  | .resetFall => .events (eventVector true false false false false)

/-! ### Words of the opcode table -/

/-- Which of the two encoding spaces a word of spec/opcode_table.json is read in (assumption 6). The table numbers
the bits of both formats from 0 and gives both at most 8 bits, so that the words 0x02, 0x04 and 0x08 stand for a
command and for an event. A word of 8 bits is a command word where it is one; where it is a reserved command
word that is exactly the vector of one event (0x10), it is that event. Fewer than 8 bits is an event vector. -/
def tableEncoding (nbits w : Nat) : Encoded :=
  if nbits < 8 then .events (BitVec.ofNat 5 w)
  else if commandOf (BitVec.ofNat 8 w) = none ∧ w = 0x10 then .events (BitVec.ofNat 5 w)
  else .command (BitVec.ofNat 8 w)

/-- The instruction of a word of spec/opcode_table.json: none where the decoder refuses, and none where the word
has bits beyond its space. -/
def decodeTableWord (nbits w : Nat) : Option Instr :=
  if 2 ^ (min nbits 8) ≤ w then none else decode (tableEncoding nbits w)

end Sys2Proof
end

