-- ==== Sys2Proof/Config.lean ====
section
/-! DEFINITION. What an implementation or its environment fixes: the parameters of R6 (P1 to P8), the input
sample of one cycle (R58), and the two free values of the model: the parameters' values and the samples the
environment supplies. -/

namespace Sys2Proof

/-- The implementation parameters of R6 that the rules read. `SYNC_STAGES` = 2 and `ARM_CYCLES` = 3 are fixed
(P8) and stand in the shape of the synchronizers and in `Config.armCycles`. -/
structure Params where
  /-- `TICKS_PER_SECOND` (P1): no rule reads it but the defaults of the next two. -/
  ticksPerSecond : Nat
  /-- `BLINK_TICKS` (P5). -/
  blinkTicks : Nat
  /-- `WATCHDOG_TICKS` (P6). -/
  watchdogTicks : Nat
  /-- `RETRY_DELAY_TICKS` (P2). -/
  retryDelayTicks : Nat
  /-- `MAX_FLASH_ATTEMPTS` (P7). -/
  maxFlashAttempts : Nat
  /-- `PAT_AWAIT_0` (P3). -/
  patAwait0 : Pattern
  /-- `PAT_AWAIT_1` (P3). -/
  patAwait1 : Pattern
  /-- `PAT_TEST_0` (P3). -/
  patTest0 : Pattern
  /-- `PAT_TEST_1` (P3). -/
  patTest1 : Pattern
  /-- `MIN_LEVEL_CYCLES` (P4): a duty of the environment, read by no rule of the step. -/
  minLevelCycles : Nat
  deriving DecidableEq, Repr, Inhabited

/-- The two pattern sets `{PAT_TEST_0, PAT_TEST_1}` and `{PAT_AWAIT_0, PAT_AWAIT_1}` are equal as sets. -/
abbrev Params.SamePatternSets (p : Params) : Prop :=
  (p.patTest0 = p.patAwait0 ∨ p.patTest0 = p.patAwait1) ∧ (p.patTest1 = p.patAwait0 ∨ p.patTest1 = p.patAwait1) ∧
  (p.patAwait0 = p.patTest0 ∨ p.patAwait0 = p.patTest1) ∧ (p.patAwait1 = p.patTest0 ∨ p.patAwait1 = p.patTest1)

/-- The legal ranges of R6 and of the table of open parameters (P1 to P7). -/
abbrev Params.Legal (p : Params) : Prop :=
  (1 ≤ p.ticksPerSecond ∧ p.ticksPerSecond < 2 ^ 32) ∧
  (1 ≤ p.blinkTicks ∧ p.blinkTicks < 2 ^ 32) ∧
  (1 ≤ p.watchdogTicks ∧ p.watchdogTicks < 2 ^ 32) ∧
  p.retryDelayTicks < 2 ^ 32 ∧
  (1 ≤ p.maxFlashAttempts ∧ p.maxFlashAttempts ≤ 3) ∧
  ¬ p.SamePatternSets ∧
  2 ≤ p.minLevelCycles

/-- The defaults R6 gives to three of the parameters. -/
abbrev Params.IsDefault (p : Params) : Prop :=
  p.blinkTicks = p.ticksPerSecond ∧ p.watchdogTicks = 3 * p.ticksPerSecond ∧ p.maxFlashAttempts = 2

/-- The test-only values of spec/95_test_vectors.md. They are NOT the block's values: they serve the tests, and
stand in `Config.params` only to make it legal by construction. -/
def Params.testOnly : Params :=
  { ticksPerSecond := 1, blinkTicks := 2, watchdogTicks := 3, retryDelayTicks := 2, maxFlashAttempts := 2,
    patAwait0 := 0x01, patAwait1 := 0x02, patTest0 := 0x05, patTest1 := 0x0A, minLevelCycles := 2 }

/-- The input sample `I` of one cycle (R58): every input port but `clk`, as the block sees it at the rising edge
that ends the cycle. -/
structure Input where
  /-- `rst_n`, active low. -/
  rstN : Bool
  /-- `bus_clock`, async. -/
  busClock : Bool
  /-- `bus_data`, async. -/
  busData : Bool
  /-- `bus_latch`, async. -/
  busLatch : Bool
  /-- `go_in`, async. -/
  goIn : Bool
  /-- `reset_in`, async. -/
  resetIn : Bool
  /-- `tick`. -/
  tick : Bool
  /-- `cmd_valid`. -/
  cmdValid : Bool
  /-- `cmd[7:0]`. -/
  cmd : CommandWord
  /-- `flash_done`. -/
  flashDone : Bool
  /-- `flash_ok`. -/
  flashOk : Bool
  deriving DecidableEq, Repr, Inhabited

/-- The defaults of R74: `rst_n=1`, `tick=0`, `cmd_valid=0`, `flash_done=0`, `flash_ok=0`. The async pins have no
default there; here every one is low (DESIGN CHOICE, assumption 14, safe: a sample for tests and `withFetchWord`). -/
def Input.quiet : Input :=
  { rstN := true, busClock := false, busData := false, busLatch := false, goIn := false, resetIn := false,
    tick := false, cmdValid := false, cmd := 0, flashDone := false, flashOk := false }

/-- `ARM_CYCLES` (P8, D3): the value at which `arm` saturates and edges are detected (R17, R59). -/
def Config.armCycles : BitVec 2 := 3

/-- FREE VALUE (assumption 1): the implementation's parameters. Nothing in Lean can evaluate it. -/
opaque Config.rawParams : Params

/-- The parameters of this implementation (R6): any legal value, and nothing says which. An illegal draw is
replaced so that `Params.Legal` holds by construction (assumption 1). -/
def Config.params : Params := if Config.rawParams.Legal then Config.rawParams else Params.testOnly

/-- FREE VALUE (assumption 2; U7, U8, U11, U21): the `n`-th sample that the environment supplies when nobody has
said which sample comes next. Nothing in Lean can evaluate it. -/
opaque Config.envSample : Nat → Input

end Sys2Proof
end

