-- ==== Sys2Proof/Machine/State.lean ====
section
/-! DEFINITION. The whole state of the block (R40, 294 bits), one structure per part of the block, beside the
model's own record of the environment's samples, and the state after reset (R139). -/

namespace Sys2Proof.Machine

/-- The FSM state register `fsm`, 3 bits (R26), with the encoding of R69. -/
inductive FsmState where
  /-- 0: before the first session (R105). -/
  | idle
  /-- 1 (R106). -/
  | awaitGo
  /-- 2: an attempt in progress (R108). -/
  | burnFlash
  /-- 3: the delay between attempts (R109). -/
  | burnDelay
  /-- 4 (R110). -/
  | awaitGoTest
  /-- 5 (R111). -/
  | testing
  /-- 6: terminal (R112). -/
  | done
  /-- 7: never reached from reset, yet given a next state (R113). -/
  | unused
  deriving DecidableEq, Repr

/-- The session result register `result`, 2 bits (R27), with the encoding of R70. -/
inductive SessionResult where
  /-- 0: no session has ended since the last START or reset. -/
  | noResult
  /-- 1: RESET in `TESTING`. -/
  | success
  /-- 2: every attempt failed. -/
  | flashFail
  /-- 3: RESET before `TESTING`. -/
  | aborted
  deriving DecidableEq, Repr

/-- The error code `rsp_err`, 2 bits (R34), with the encoding of R67. -/
inductive ErrorCode where
  /-- 0: command performed, or no command. -/
  | ok
  /-- 1 `ERR_RESERVED`: a reserved command word (R64). -/
  | reserved
  /-- 2 `ERR_BUSY`: a mutating command while a session is active (R132). -/
  | busy
  /-- 3: never produced (R67). A pre-reset register may hold it (U1, U5). -/
  | unused
  deriving DecidableEq, Repr

/-- The synchronizers (R15), the edge detectors (R16) and the warm-up counter (R17). -/
structure SyncRegs where
  /-- `clk_s0`. -/
  clkS0 : Bool
  /-- `clk_s1`. -/
  clkS1 : Bool
  /-- `dat_s0`. -/
  datS0 : Bool
  /-- `dat_s1`. -/
  datS1 : Bool
  /-- `lat_s0`. -/
  latS0 : Bool
  /-- `lat_s1`. -/
  latS1 : Bool
  /-- `go_s0`. -/
  goS0 : Bool
  /-- `go_s1`. -/
  goS1 : Bool
  /-- `rst_s0`. -/
  rstS0 : Bool
  /-- `rst_s1`. -/
  rstS1 : Bool
  /-- `clk_p`. -/
  clkP : Bool
  /-- `lat_p`. -/
  latP : Bool
  /-- `go_p`. -/
  goP : Bool
  /-- `rst_p`. -/
  rstP : Bool
  /-- `arm`: cycles since reset, saturating at 3. -/
  arm : BitVec 2
  deriving DecidableEq, Repr

/-- The Bit Sampler's registers (R18, R19). -/
structure Sampler where
  /-- `acc`, the shift-register accumulator. -/
  acc : Word
  /-- `en`, the sampler enable. -/
  en : Bool
  deriving DecidableEq, Repr

/-- The Packet Store's registers (R20, R21, R22). -/
structure PacketStore where
  /-- `cur`, the current frame. -/
  cur : Word
  /-- `last`, the previous frame. -/
  last : Word
  /-- `pending`, the new-frame flag. -/
  pending : Bool
  deriving DecidableEq, Repr

/-- The two Trigger Latches (R24, R25). -/
structure TriggerLatches where
  /-- `go_l`. -/
  goL : Bool
  /-- `rst_l`. -/
  rstL : Bool
  deriving DecidableEq, Repr

/-- The Orchestration FSM's registers (R26 to R32). -/
structure Orchestration where
  /-- `fsm`. -/
  fsm : FsmState
  /-- `result`. -/
  result : SessionResult
  /-- `attempts`: flash attempts started in this session. -/
  attempts : BitVec 2
  /-- `cfg_skip_burn`. -/
  cfgSkipBurn : Bool
  /-- `cfg_require_go`. -/
  cfgRequireGo : Bool
  /-- `blink_cnt`. -/
  blinkCnt : Word
  /-- `phase`, the indicator phase. -/
  phase : Bool
  /-- `wd_cnt`, the silence-watchdog counter. -/
  wdCnt : Word
  /-- `dly_cnt`, the retry-delay counter. -/
  dlyCnt : Word
  deriving DecidableEq, Repr

/-- The pulse registers and `view_frame` (R33). -/
structure OutputRegs where
  /-- `flash_start`. -/
  flashStart : Bool
  /-- `view_valid`. -/
  viewValid : Bool
  /-- `alive`. -/
  alive : Bool
  /-- `silence_warn`. -/
  silenceWarn : Bool
  /-- `attempt_fail`. -/
  attemptFail : Bool
  /-- `view_frame`. -/
  viewFrame : Word
  deriving DecidableEq, Repr

/-- The command response registers (R34). -/
structure Response where
  /-- `rsp_valid`. -/
  valid : Bool
  /-- `rsp_data`. -/
  data : Word
  /-- `rsp_err`. -/
  err : ErrorCode
  deriving DecidableEq, Repr

/-- THE MODEL'S OWN (assumption 2), no state of the block: which input samples come next. `stim` holds the
samples already decided, the next one first; once it is empty every sample is a draw of the environment, and
`draws` counts the draws made so far. -/
structure Environment where
  stim : List Input
  draws : Nat
  deriving DecidableEq, Repr

/-- The whole state: the block's (R40) and the environment's next samples. The block has no memory (R41), no
program counter (R14) and no register file (R13). -/
structure State where
  sync : SyncRegs
  sampler : Sampler
  store : PacketStore
  latches : TriggerLatches
  orch : Orchestration
  out : OutputRegs
  rsp : Response
  env : Environment
  deriving DecidableEq, Repr

/-- The faults of a step: NONE. R128: the block never traps and every input sequence is accepted;
spec/93_implementation_defined.md: "No item of this block is a fault". The type is closed and empty, so that no step can end in a fault. Safe. -/
inductive Fault where
  deriving DecidableEq, Repr

/-- The refusals of a step. -/
inductive Refusal where
  /-- An instruction without a meaning. No arm of exec raises it: every instruction has its meaning. Safe. -/
  | notModelled (mnemonic : String)
  deriving DecidableEq, Repr

/-- The reset state (R139, R40): every field of the block is 0, `fsm` is IDLE and `result` is NONE. No sample is
decided and no draw has been made (assumption 3). -/
def State.reset : State :=
  { sync :=
      { clkS0 := false, clkS1 := false, datS0 := false, datS1 := false, latS0 := false, latS1 := false,
        goS0 := false, goS1 := false, rstS0 := false, rstS1 := false,
        clkP := false, latP := false, goP := false, rstP := false, arm := 0 }
    sampler := { acc := 0, en := false }
    store := { cur := 0, last := 0, pending := false }
    latches := { goL := false, rstL := false }
    orch :=
      { fsm := .idle, result := .noResult, attempts := 0, cfgSkipBurn := false, cfgRequireGo := false,
        blinkCnt := 0, phase := false, wdCnt := 0, dlyCnt := 0 }
    out :=
      { flashStart := false, viewValid := false, alive := false, silenceWarn := false, attemptFail := false,
        viewFrame := 0 }
    rsp := { valid := false, data := 0, err := .ok }
    env := { stim := [], draws := 0 } }

end Sys2Proof.Machine
end

