-- ==== Sys2Proof/Machine/Flags.lean ====
section
/-! DEFINITION. The flag computations: set against clear (R45), the events (R59), the change flag (R23), the
derived enables (R35) and the comparison of a tick counter with its limit (R109, R114, R116). -/

namespace Sys2Proof.Machine

/-- R45: the next value of a flag; a set wins over a clear of the same cycle. -/
def mergeFlag (set clr old : Bool) : Bool :=
  if set then true else if clr then false else old

/-- R48: a 1-bit flag zero-extended to 32 bits. -/
def zextFlag (b : Bool) : Word := (BitVec.ofBool b).setWidth 32

/-- The five event signals of a cycle (R59). -/
structure Events where
  rstFall : Bool
  goRise : Bool
  latchRise : Bool
  clkRise : Bool
  dataBit : Bool
  deriving DecidableEq, Repr

/-- R59: the event signals, from the state alone. -/
def detectEvents (s : State) : Events :=
  let armed := s.sync.arm == Config.armCycles
  { rstFall := armed && !s.sync.rstS1 && s.sync.rstP
    goRise := armed && s.sync.goS1 && !s.sync.goP
    latchRise := armed && s.sync.latS1 && !s.sync.latP
    clkRise := armed && s.sync.clkS1 && !s.sync.clkP
    dataBit := s.sync.datS1 }

/-- R23: `changed`, a combinational value. -/
def changed (st : PacketStore) : Bool := st.cur != st.last

/-- R35: `flash_en`, high in the two BURN states. -/
def flashEn (s : State) : Bool :=
  match s.orch.fsm with
  | .burnFlash => true
  | .burnDelay => true
  | .idle => false
  | .awaitGo => false
  | .awaitGoTest => false
  | .testing => false
  | .done => false
  | .unused => false

/-- R35: `session_active`. -/
def sessionActive (s : State) : Bool :=
  match s.orch.fsm with
  | .awaitGo => true
  | .burnFlash => true
  | .burnDelay => true
  | .awaitGoTest => true
  | .testing => true
  | .idle => false
  | .done => false
  | .unused => false

/-- R35: `session_done`. -/
def sessionDone (s : State) : Bool := s.orch.fsm == .done

/-- The test `cnt + 1 >= limit` of R109, R114 and R116, on the exact sum: the counter is compared before it wraps
(assumption 4). -/
def tickReaches (cnt : Word) (limit : Nat) : Bool := decide (limit ≤ cnt.toNat + 1)

end Sys2Proof.Machine
end

