-- ==== Sys2Proof/Machine/Operands.lean ====
section
/-! DEFINITION. The operand forms: the encodings of the state registers that a read shows (R67, R69, R70), the
indicator (R115), the status word (R68), the output ports (R58, R35, R71) and the event vector (R60). -/

namespace Sys2Proof.Machine

/-- R69. -/
def fsmCode : FsmState → BitVec 3
  | .idle => 0
  | .awaitGo => 1
  | .burnFlash => 2
  | .burnDelay => 3
  | .awaitGoTest => 4
  | .testing => 5
  | .done => 6
  | .unused => 7

/-- R70. -/
def resultCode : SessionResult → BitVec 2
  | .noResult => 0
  | .success => 1
  | .flashFail => 2
  | .aborted => 3

/-- R67. -/
def errorCode : ErrorCode → BitVec 2
  | .ok => 0
  | .reserved => 1
  | .busy => 2
  | .unused => 3

/-- R115: the indicator. -/
def led (p : Params) (s : State) : Pattern :=
  match s.orch.fsm with
  | .awaitGo => if s.orch.phase then p.patAwait1 else p.patAwait0
  | .awaitGoTest => if s.orch.phase then p.patAwait1 else p.patAwait0
  | .testing => if s.orch.phase then p.patTest1 else p.patTest0
  | .idle => 0
  | .burnFlash => 0
  | .burnDelay => 0
  | .done => 0
  | .unused => 0

/-- R71: `pin_sel = (en, flash_en)`. -/
def pinSel (s : State) : BitVec 2 := BitVec.ofBool s.sampler.en ++ BitVec.ofBool (flashEn s)

/-- R68: the status word, bit 31 first. -/
def statusWord (p : Params) (s : State) : Word :=
  led p s ++ 0#7 ++ BitVec.ofBool s.orch.cfgRequireGo ++ BitVec.ofBool s.orch.cfgSkipBurn ++ s.orch.attempts ++
  resultCode s.orch.result ++ fsmCode s.orch.fsm ++ 0#1 ++ BitVec.ofBool (sessionActive s) ++
  BitVec.ofBool (flashEn s) ++ BitVec.ofBool s.sampler.en ++ BitVec.ofBool s.latches.rstL ++
  BitVec.ofBool s.latches.goL ++ BitVec.ofBool (changed s.store) ++ BitVec.ofBool s.store.pending

/-- The output ports of R58. -/
structure Outputs where
  rspValid : Bool
  rspData : Word
  rspErr : BitVec 2
  samplerEn : Bool
  flashEn : Bool
  pinSel : BitVec 2
  flashStart : Bool
  led : Pattern
  viewValid : Bool
  viewFrame : Word
  alive : Bool
  silenceWarn : Bool
  attemptFail : Bool
  sessionDone : Bool
  sessionResult : BitVec 2
  deriving DecidableEq, Repr

/-- R58, R35: the output ports, all functions of the state. -/
def outputs (p : Params) (s : State) : Outputs :=
  { rspValid := s.rsp.valid
    rspData := s.rsp.data
    rspErr := errorCode s.rsp.err
    samplerEn := s.sampler.en
    flashEn := Sys2Proof.Machine.flashEn s
    pinSel := Sys2Proof.Machine.pinSel s
    flashStart := s.out.flashStart
    led := Sys2Proof.Machine.led p s
    viewValid := s.out.viewValid
    viewFrame := s.out.viewFrame
    alive := s.out.alive
    silenceWarn := s.out.silenceWarn
    attemptFail := s.out.attemptFail
    sessionDone := Sys2Proof.Machine.sessionDone s
    sessionResult := resultCode s.orch.result }

/-- R60: the event vector of a cycle's events. -/
def eventsToVector (e : Events) : EventVector :=
  eventVector e.rstFall e.goRise e.latchRise e.clkRise e.dataBit

/-- R60: the event signals an event vector stands for. -/
def eventsOfVector (v : EventVector) : Events :=
  { rstFall := v.getLsbD 4, goRise := v.getLsbD 3, latchRise := v.getLsbD 2, clkRise := v.getLsbD 1,
    dataBit := v.getLsbD 0 }

end Sys2Proof.Machine
end

