-- ==== Sys2Proof/Machine/Ops.lean ====
section
/-! DEFINITION. The named operations of a cycle: the input sample, the synchronizers (R15 to R17), the Bit
Sampler (R75 to R80), the capture (R86), what a command asks for, and the ONE shared way in which a command
reports an error (R130), which takes the place of a trap: the block has none (R128). -/

namespace Sys2Proof.Machine

/-! ### The input sample -/

/-- The input sample `I` of this cycle (R43): the next decided one, or a draw of the environment
(assumption 2). -/
def sample (s : State) : Input :=
  match s.env.stim with
  | i :: _ => i
  | [] => Config.envSample s.env.draws

/-- The samples still to come after this cycle. -/
def nextEnv (e : Environment) : Environment :=
  match e.stim with
  | _ :: rest => { e with stim := rest }
  | [] => { e with draws := e.draws + 1 }

/-- The state in which `i` is the sample of this cycle; the samples after it stay. -/
def withSample (s : State) (i : Input) : State :=
  { s with env := { s.env with stim := i :: s.env.stim.tail } }

/-! ### Synchronizers, edge detectors, warm-up -/

/-- R17: `arm` counts up and saturates at 3. -/
def nextArm (a : BitVec 2) : BitVec 2 := if a = Config.armCycles then Config.armCycles else a + 1

/-- R15, R16, R17: every cycle, whatever `en` is. -/
def nextSync (i : Input) (r : SyncRegs) : SyncRegs :=
  { clkS0 := i.busClock, clkS1 := r.clkS0, clkP := r.clkS1
    datS0 := i.busData, datS1 := r.datS0
    latS0 := i.busLatch, latS1 := r.latS0, latP := r.latS1
    goS0 := i.goIn, goS1 := r.goS0, goP := r.goS1
    rstS0 := i.resetIn, rstS1 := r.rstS0, rstP := r.rstS1
    arm := nextArm r.arm }

/-! ### Bit Sampler and capture -/

/-- R77: the accumulator after one clocked bit, `((acc << 1) | data_bit) mod 2^32`. -/
def shiftIn (acc : Word) (d : Bool) : Word := (acc <<< 1) ||| zextFlag d

/-- `a1` of R79 and R80: the accumulator after this cycle's CLOCK edge, if there is one. -/
def clocked (ev : Events) (acc : Word) : Word := if ev.clkRise then shiftIn acc ev.dataBit else acc

/-- The frame captured this cycle (R80, R86): exactly when `en == 1 & latch_rise == 1`. -/
def captured (ev : Events) (sm : Sampler) : Option Word :=
  if sm.en && ev.latchRise then some (clocked ev sm.acc) else none

/-- R80: the next accumulator, where `en'` is the next enable. -/
def nextAcc (ev : Events) (sm : Sampler) (enNext : Bool) : Word :=
  if !sm.en && enNext then 0
  else if sm.en && ev.latchRise then 0
  else if sm.en then clocked ev sm.acc
  else sm.acc

/-- R86 and R45: a capture moves `cur` to `last` and sets `pending`, also against a clear of this cycle. -/
def nextStore (cap : Option Word) (pendClr : Bool) (st : PacketStore) : PacketStore :=
  { cur := cap.getD st.cur
    last := if cap.isSome then st.cur else st.last
    pending := mergeFlag cap.isSome pendClr st.pending }

/-- R94, R95 and R45: the two latches, independent of each other (R96). -/
def nextLatches (ev : Events) (goClr rstClr : Bool) (l : TriggerLatches) : TriggerLatches :=
  { goL := mergeFlag ev.goRise goClr l.goL
    rstL := mergeFlag ev.rstFall rstClr l.rstL }

/-! ### What a command asks for -/

/-- What the command port contributes to a cycle (part 5 of R44): the response, the clears, the enable it writes
and the FSM-owned registers START writes. -/
structure CommandEffect where
  rsp : Response
  pendClr : Bool
  goClr : Bool
  rstClr : Bool
  enWrite : Option Bool
  orchWrite : Option Orchestration
  deriving DecidableEq, Repr

/-- A command port that writes the response registers and nothing else. -/
def respondOnly (r : Response) : CommandEffect :=
  { rsp := r, pendClr := false, goClr := false, rstClr := false, enWrite := none, orchWrite := none }

/-- R66: no command this cycle. -/
def noCommand : CommandEffect := respondOnly { valid := false, data := 0, err := .ok }

/-- R66: a performed command that answers `v` and changes nothing else. -/
def reply (v : Word) : CommandEffect := respondOnly { valid := true, data := v, err := .ok }

/-- `raise CmdError(code)` (R130): the response registers record the error and nothing else changes. -/
def raiseCmdError (code : ErrorCode) : CommandEffect := respondOnly { valid := true, data := 0, err := code }

/-- R132: the guard of every mutating command, refused with `ERR_BUSY` while a session is active. -/
def ifOwner (s : State) (e : CommandEffect) : CommandEffect :=
  if sessionActive s then raiseCmdError .busy else e

end Sys2Proof.Machine
end

