-- ==== Sys2Proof/Machine/Fsm.lean ====
section
/-! DEFINITION. The Orchestration FSM (part 6 of R44): its entry actions (R104), its timers (R114, R116) and its
states (R105 to R113). -/

namespace Sys2Proof.Machine

/-- What the FSM contributes to a cycle: its own registers' next values, the enable it writes and its clears. -/
structure FsmEffect where
  orch : Orchestration
  out : OutputRegs
  enWrite : Option Bool
  pendClr : Bool
  goClr : Bool
  rstClr : Bool
  deriving DecidableEq, Repr

/-- R33: every pulse register at 0; `view_frame` keeps its value. -/
def pulsesOff (o : OutputRegs) : OutputRegs :=
  { flashStart := false, viewValid := false, alive := false, silenceWarn := false, attemptFail := false,
    viewFrame := o.viewFrame }

/-- The FSM writes nothing but the pulse registers, which it writes 0 (spec/43_orchestration_fsm.md, opening). -/
def fsmHold (s : State) : FsmEffect :=
  { orch := s.orch, out := pulsesOff s.out, enWrite := none, pendClr := false, goClr := false, rstClr := false }

/-! ### Entry actions (R104) -/

/-- ENTER_AWAIT_GO, on the FSM's registers, since START takes it (R125). -/
def enterAwaitGo (o : Orchestration) : Orchestration :=
  { o with fsm := .awaitGo, blinkCnt := 0, phase := false }

/-- ENTER_BURN_FLASH. -/
def enterBurnFlash (e : FsmEffect) : FsmEffect :=
  { e with orch := { e.orch with fsm := .burnFlash }, out := { e.out with flashStart := true } }

/-- ENTER_BURN_DELAY. -/
def enterBurnDelay (e : FsmEffect) : FsmEffect :=
  { e with orch := { e.orch with fsm := .burnDelay, dlyCnt := 0 } }

/-- ENTER_AWAIT_GO_TEST: a GO press made during burning is discarded. -/
def enterAwaitGoTest (e : FsmEffect) : FsmEffect :=
  { e with orch := { e.orch with fsm := .awaitGoTest, blinkCnt := 0, phase := false }, goClr := true }

/-- ENTER_TESTING. Its `acc <- 0` is the enabling case of R80, which alone defines the next accumulator (C6). -/
def enterTesting (e : FsmEffect) : FsmEffect :=
  { e with orch := { e.orch with fsm := .testing, wdCnt := 0, blinkCnt := 0, phase := false }, enWrite := some true }

/-- ENTER_DONE(r). -/
def enterDone (r : SessionResult) (e : FsmEffect) : FsmEffect :=
  { e with orch := { e.orch with fsm := .done, result := r } }

/-! ### Timers -/

/-- R114: the blink step. -/
def blinkStep (p : Params) (tick : Bool) (e : FsmEffect) : FsmEffect :=
  if tick then
    if tickReaches e.orch.blinkCnt p.blinkTicks then
      { e with orch := { e.orch with blinkCnt := 0, phase := !e.orch.phase } }
    else { e with orch := { e.orch with blinkCnt := e.orch.blinkCnt + 1 } }
  else e

/-- R116: the silence watchdog's step. -/
def watchdogStep (p : Params) (tick : Bool) (e : FsmEffect) : FsmEffect :=
  if tick then
    if tickReaches e.orch.wdCnt p.watchdogTicks then
      { e with orch := { e.orch with wdCnt := 0 }, out := { e.out with silenceWarn := true } }
    else { e with orch := { e.orch with wdCnt := e.orch.wdCnt + 1 } }
  else e

/-! ### States -/

/-- R106: `AWAIT_GO`, with the skip-burn path of R107. GO is tested before RESET. -/
def fsmAwaitGo (p : Params) (i : Input) (s : State) : FsmEffect :=
  let e := fsmHold s
  if s.latches.goL then
    let e := { e with goClr := true, rstClr := true }
    if s.orch.cfgSkipBurn then enterTesting e
    else enterBurnFlash { e with orch := { e.orch with attempts := 1 } }
  else if s.latches.rstL && !s.orch.cfgRequireGo then enterDone .aborted { e with rstClr := true }
  else blinkStep p i.tick e

/-- R108: `BURN_FLASH`. RESET is acted on in the cycle the attempt ends, before its result is used. -/
def fsmBurnFlash (p : Params) (i : Input) (s : State) : FsmEffect :=
  let e := fsmHold s
  if i.flashDone then
    let e := { e with out := { e.out with attemptFail := !i.flashOk } }
    if s.latches.rstL then enterDone .aborted { e with rstClr := true }
    else if i.flashOk then enterAwaitGoTest e
    else if s.orch.attempts.toNat < p.maxFlashAttempts then enterBurnDelay e
    else enterDone .flashFail e
  else e

/-- R109: `BURN_DELAY`. The 2-bit `attempts` wraps where no run reaches (assumption 5). -/
def fsmBurnDelay (p : Params) (i : Input) (s : State) : FsmEffect :=
  let e := fsmHold s
  if s.latches.rstL then enterDone .aborted { e with rstClr := true }
  else if p.retryDelayTicks = 0 || (i.tick && tickReaches s.orch.dlyCnt p.retryDelayTicks) then
    enterBurnFlash { e with orch := { e.orch with attempts := e.orch.attempts + 1 } }
  else if i.tick then { e with orch := { e.orch with dlyCnt := e.orch.dlyCnt + 1 } }
  else e

/-- R110: `AWAIT_GO_TEST`. -/
def fsmAwaitGoTest (p : Params) (i : Input) (s : State) : FsmEffect :=
  let e := fsmHold s
  if s.latches.goL then enterTesting { e with goClr := true, rstClr := true }
  else if s.latches.rstL && !s.orch.cfgRequireGo then enterDone .aborted { e with rstClr := true }
  else blinkStep p i.tick e

/-- R111: `TESTING`. RESET first; else the FSM is the consumer of the Packet Store. -/
def fsmTesting (p : Params) (i : Input) (s : State) : FsmEffect :=
  let e := fsmHold s
  if s.latches.rstL then enterDone .success { e with enWrite := some false, rstClr := true }
  else
    let e := { e with pendClr := true }
    let e :=
      if s.store.pending then
        let e := { e with orch := { e.orch with wdCnt := 0 } }
        if changed s.store then { e with out := { e.out with viewValid := true, viewFrame := s.store.cur } }
        else { e with out := { e.out with alive := true } }
      else watchdogStep p i.tick e
    blinkStep p i.tick e

/-- R123: one evaluation of the FSM. IDLE and DONE write nothing (R105, R112); 7 goes to IDLE (R113). An accepted
START takes precedence in `cycle`. -/
def fsmEffect (p : Params) (i : Input) (s : State) : FsmEffect :=
  match s.orch.fsm with
  | .idle => fsmHold s
  | .awaitGo => fsmAwaitGo p i s
  | .burnFlash => fsmBurnFlash p i s
  | .burnDelay => fsmBurnDelay p i s
  | .awaitGoTest => fsmAwaitGoTest p i s
  | .testing => fsmTesting p i s
  | .done => fsmHold s
  | .unused => { fsmHold s with orch := { s.orch with fsm := .idle } }

end Sys2Proof.Machine
end

