-- ==== Sys2Proof/Machine/Cycle.lean ====
section
/-! DEFINITION. One clock cycle (R43, R44): the parts read only the state and the sample, and the merges of R45
combine them. -/

namespace Sys2Proof.Machine

/-- The enable's next value: the command port writes it only outside a session, the FSM only inside one (R36). -/
def nextEn (c f : Option Bool) (en : Bool) : Bool := c.getD (f.getD en)

/-- Parts 2 to 7 of R44, for the event signals `ev` and the command port's contribution `c`. An accepted START
writes the FSM's registers in place of the FSM, which has no session then (R113, R125). -/
def cycle (p : Params) (ev : Events) (c : CommandEffect) (s : State) : State :=
  let i := sample s
  let f := fsmEffect p i s
  let en := nextEn c.enWrite f.enWrite s.sampler.en
  { sync := nextSync i s.sync
    sampler := { acc := nextAcc ev s.sampler en, en := en }
    store := nextStore (captured ev s.sampler) (c.pendClr || f.pendClr) s.store
    latches := nextLatches ev (c.goClr || f.goClr) (c.rstClr || f.rstClr) s.latches
    orch := c.orchWrite.getD f.orch
    out := f.out
    rsp := c.rsp
    env := nextEnv s.env }

/-- Part 1 of R44 (R139): a cycle with `rst_n == 0` ends in the reset state. The environment goes on. -/
def resetCycle (s : State) : State := { State.reset with env := nextEnv s.env }

/-- A cycle in which `c` is what the command port contributes, with the events the state shows. The meaning of a
command is this cycle (it is one clock cycle long: R61, R153). -/
def commandCycle (c : CommandEffect) (s : State) : State := cycle Config.params (detectEvents s) c s

end Sys2Proof.Machine
end

