-- ==== Sys2Proof/Machine/BitSampler.lean ====
section
/-! DEFINITION. The Bit Sampler's commands: SEN (R82), SDIS (R83), RDACC (R84). -/

namespace Sys2Proof.Machine

/-- R82. The accumulator's clear is the enabling case of R80. -/
def senEffect (s : State) : CommandEffect := ifOwner s { reply 0 with enWrite := some true }

/-- SEN (R82). -/
def execSen (s : State) : Host.Outcome State Fault Refusal := .next (commandCycle (senEffect s) s)

/-- R83. -/
def sdisEffect (s : State) : CommandEffect := ifOwner s { reply 0 with enWrite := some false }

/-- SDIS (R83). -/
def execSdis (s : State) : Host.Outcome State Fault Refusal := .next (commandCycle (sdisEffect s) s)

/-- R84. -/
def rdaccEffect (s : State) : CommandEffect := reply s.sampler.acc

/-- RDACC (R84). -/
def execRdacc (s : State) : Host.Outcome State Fault Refusal := .next (commandCycle (rdaccEffect s) s)

end Sys2Proof.Machine
end

