-- ==== Sys2Proof/Machine/LatchCommands.lean ====
section
/-! DEFINITION. The Trigger Latches' commands: RDGO (R97), CLRGO (R98), RDRST (R99), CLRRST (R100). -/

namespace Sys2Proof.Machine

/-- R97. -/
def rdgoEffect (s : State) : CommandEffect := reply (zextFlag s.latches.goL)

/-- RDGO (R97). -/
def execRdgo (s : State) : Host.Outcome State Fault Refusal := .next (commandCycle (rdgoEffect s) s)

/-- R98. -/
def clrgoEffect (s : State) : CommandEffect := ifOwner s { reply 0 with goClr := true }

/-- CLRGO (R98). -/
def execClrgo (s : State) : Host.Outcome State Fault Refusal := .next (commandCycle (clrgoEffect s) s)

/-- R99. -/
def rdrstEffect (s : State) : CommandEffect := reply (zextFlag s.latches.rstL)

/-- RDRST (R99). -/
def execRdrst (s : State) : Host.Outcome State Fault Refusal := .next (commandCycle (rdrstEffect s) s)

/-- R100. -/
def clrrstEffect (s : State) : CommandEffect := ifOwner s { reply 0 with rstClr := true }

/-- CLRRST (R100). -/
def execClrrst (s : State) : Host.Outcome State Fault Refusal := .next (commandCycle (clrrstEffect s) s)

end Sys2Proof.Machine
end

