-- ==== Sys2Proof/Machine/PacketCommands.lean ====
section
/-! DEFINITION. The Packet Store's commands: NEWPKT (R89), RDCAP (R90), RDLAST (R91), CHG (R92). -/

namespace Sys2Proof.Machine

/-- R89: the old `pending` is answered, and cleared unless a capture of this cycle sets it (R45). -/
def newpktEffect (s : State) : CommandEffect :=
  ifOwner s { reply (zextFlag s.store.pending) with pendClr := true }

/-- NEWPKT (R89). -/
def execNewpkt (s : State) : Host.Outcome State Fault Refusal := .next (commandCycle (newpktEffect s) s)

/-- R90: `pending` is not cleared (C4). -/
def rdcapEffect (s : State) : CommandEffect := reply s.store.cur

/-- RDCAP (R90). -/
def execRdcap (s : State) : Host.Outcome State Fault Refusal := .next (commandCycle (rdcapEffect s) s)

/-- R91. -/
def rdlastEffect (s : State) : CommandEffect := reply s.store.last

/-- RDLAST (R91). -/
def execRdlast (s : State) : Host.Outcome State Fault Refusal := .next (commandCycle (rdlastEffect s) s)

/-- R92. -/
def chgEffect (s : State) : CommandEffect := reply (zextFlag (changed s.store))

/-- CHG (R92). -/
def execChg (s : State) : Host.Outcome State Fault Refusal := .next (commandCycle (chgEffect s) s)

end Sys2Proof.Machine
end

