-- ==== Sys2Proof/Machine/SessionCommands.lean ====
section
/-! DEFINITION. The Orchestration's commands: START (R125), STAT (R126), NOP (R127). -/

namespace Sys2Proof.Machine

/-- R127. -/
def nopEffect (_ : State) : CommandEffect := reply 0

/-- NOP (R127). -/
def execNop (s : State) : Host.Outcome State Fault Refusal := .next (commandCycle (nopEffect s) s)

/-- R126. -/
def statEffect (p : Params) (s : State) : CommandEffect := reply (statusWord p s)

/-- STAT (R126). -/
def execStat (s : State) : Host.Outcome State Fault Refusal := .next (commandCycle (statEffect Config.params s) s)

/-- R125: the FSM-owned registers START writes, with the entry action of `AWAIT_GO`. -/
def startSession (skip go : Bool) (o : Orchestration) : Orchestration :=
  enterAwaitGo { o with
    cfgSkipBurn := skip, cfgRequireGo := go, result := .noResult, attempts := 0, wdCnt := 0, dlyCnt := 0 }

/-- R125. -/
def startEffect (skip go : Bool) (s : State) : CommandEffect :=
  ifOwner s { reply 0 with
    goClr := true, rstClr := true, enWrite := some false, orchWrite := some (startSession skip go s.orch) }

/-- START (R125); `skip` is `cmd[4]` and `go` is `cmd[5]`. -/
def execStart (skip go : Bool) (s : State) : Host.Outcome State Fault Refusal :=
  .next (commandCycle (startEffect skip go s) s)

end Sys2Proof.Machine
end

