-- ==== Sys2Proof/Machine/Port.lean ====
section
/-! DEFINITION. The command port (part 5 of R44): what this cycle's command word contributes (R66). -/

namespace Sys2Proof.Machine

/-- What a decoded command contributes. An event is no command: the decoder never gives one. -/
def commandEffect (p : Params) (i : Instr) (s : State) : CommandEffect :=
  match i with
  | .nop => nopEffect s
  | .newpkt => newpktEffect s
  | .rdcap => rdcapEffect s
  | .rdlast => rdlastEffect s
  | .chg => chgEffect s
  | .rdgo => rdgoEffect s
  | .clrgo => clrgoEffect s
  | .rdrst => rdrstEffect s
  | .clrrst => clrrstEffect s
  | .sen => senEffect s
  | .sdis => sdisEffect s
  | .stat => statEffect p s
  | .start skip go => startEffect skip go s
  | .rdacc => rdaccEffect s
  | .clkRise _ => noCommand
  | .latchRise => noCommand
  | .goRise => noCommand
  | .resetFall => noCommand

/-- The command presented this cycle, if `cmd_valid == 1` and its word is one of the 17 defined words (R65). -/
def portCommand (s : State) : Option Instr :=
  if (sample s).cmdValid then commandOf (sample s).cmd else none

/-- R66: no command, a reserved word, or a command. The reserved check comes before the busy check. -/
def portEffect (p : Params) (s : State) : CommandEffect :=
  if (sample s).cmdValid then
    match commandOf (sample s).cmd with
    | some i => commandEffect p i s
    | none => raiseCmdError .reserved
  else noCommand

/-- The cycle of the events `ev`, with whatever this cycle's sample holds on the command port. -/
def eventCycle (ev : Events) (s : State) : State := cycle Config.params ev (portEffect Config.params s) s

/-- What runs in this cycle: the command presented, else the first event detected, else nothing. -/
def fetch (s : State) : Option Instr :=
  match portCommand s with
  | some i => some i
  | none => (decodeEvents (eventsToVector (detectEvents s))).head?

end Sys2Proof.Machine
end

