-- ==== Sys2Proof/Machine/BusEvents.lean ====
section
/-! DEFINITION. The events: CLK_RISE (R77, R79), LATCH_RISE (R78, R79), GO_RISE (R94), RESET_FALL (R95). Events are
not exclusive (R60): the meaning of an event is the cycle in which it is detected, together with the other events
the state shows and the command the sample holds. -/

namespace Sys2Proof.Machine

/-- CLK_RISE (R77) with the DATA level `d`. -/
def execClkRise (d : Bool) (s : State) : Host.Outcome State Fault Refusal :=
  .next (eventCycle { detectEvents s with clkRise := true, dataBit := d } s)

/-- LATCH_RISE (R78). -/
def execLatchRise (s : State) : Host.Outcome State Fault Refusal :=
  .next (eventCycle { detectEvents s with latchRise := true } s)

/-- GO_RISE (R94). -/
def execGoRise (s : State) : Host.Outcome State Fault Refusal :=
  .next (eventCycle { detectEvents s with goRise := true } s)

/-- RESET_FALL (R95). -/
def execResetFall (s : State) : Host.Outcome State Fault Refusal :=
  .next (eventCycle { detectEvents s with rstFall := true } s)

end Sys2Proof.Machine
end

