-- ==== Sys2Proof/Machine/Dispatch.lean ====
section
/-! DEFINITION. exec: one arm per instruction. What an instruction does in the cycle in which it runs, that cycle
having `rst_n == 1`. -/

namespace Sys2Proof.Machine

def exec (i : Instr) (s : State) : Host.Outcome State Fault Refusal :=
  match i with
  | .nop => Sys2Proof.Machine.execNop s
  | .newpkt => Sys2Proof.Machine.execNewpkt s
  | .rdcap => Sys2Proof.Machine.execRdcap s
  | .rdlast => Sys2Proof.Machine.execRdlast s
  | .chg => Sys2Proof.Machine.execChg s
  | .rdgo => Sys2Proof.Machine.execRdgo s
  | .clrgo => Sys2Proof.Machine.execClrgo s
  | .rdrst => Sys2Proof.Machine.execRdrst s
  | .clrrst => Sys2Proof.Machine.execClrrst s
  | .sen => Sys2Proof.Machine.execSen s
  | .sdis => Sys2Proof.Machine.execSdis s
  | .stat => Sys2Proof.Machine.execStat s
  | .start skip go => Sys2Proof.Machine.execStart skip go s
  | .rdacc => Sys2Proof.Machine.execRdacc s
  | .clkRise d => Sys2Proof.Machine.execClkRise d s
  | .latchRise => Sys2Proof.Machine.execLatchRise s
  | .goRise => Sys2Proof.Machine.execGoRise s
  | .resetFall => Sys2Proof.Machine.execResetFall s

end Sys2Proof.Machine
end

