-- ==== Sys2Proof/Machine/Stimulus.lean ====
section
/-! DEFINITION. Stimulus: where a word of the opcode table is placed so that the next cycle runs it, and how an
event-level program is realised at pin level (R74). -/

namespace Sys2Proof.Machine

/-- The sample this cycle takes where nothing is decided yet: the defaults of R74. A decided one stays. -/
def decidedSample (s : State) : Input := s.env.stim.headD Input.quiet

/-- The state whose next sample presents the word `w` on the command port, with `rst_n == 1`. -/
def presentCommand (s : State) (w : CommandWord) : State :=
  withSample s { decidedSample s with rstN := true, cmdValid := true, cmd := w }

/-- The state that shows exactly the event vector `v` (R59): the warm-up is over, each synchronizer's last stage
and each edge detector are at the levels of that vector, and the next sample has `rst_n == 1` and no command. -/
def presentEvents (s : State) (v : EventVector) : State :=
  let e := eventsOfVector v
  withSample
    { s with sync := { s.sync with
        arm := Config.armCycles
        clkS1 := e.clkRise, clkP := false
        datS1 := e.dataBit
        latS1 := e.latchRise, latP := false
        goS1 := e.goRise, goP := false
        rstS1 := !e.rstFall, rstP := true } }
    { decidedSample s with rstN := true, cmdValid := false }

/-- The state in which the next cycle runs what `e` encodes. -/
def present (s : State) : Encoded → State
  | .command w => presentCommand s w
  | .events v => presentEvents s v

/-- R74: the input sample of a cycle whose own line is `now` and whose second next line is `ahead`. Each pin is at
its post-edge value two cycles before its event. In every other cycle it is at its pre-edge value (low, RESET high),
and DATA is low where no CLOCK edge follows: R74 asks for the cycle before only (DESIGN CHOICE, assumption 14). -/
def realiseLine (now ahead : EventLine) : Input :=
  { rstN := now.rstN
    busClock := ahead.clk.isSome
    busData := ahead.clk.getD false
    busLatch := ahead.latch
    goIn := ahead.go
    resetIn := !ahead.rst
    tick := now.tick
    cmdValid := now.cmd.isSome
    cmd := now.cmd.getD 0
    flashDone := now.flashDone
    flashOk := now.flashOk }

/-- R74: an event-level program as input samples. -/
def realise : List EventLine → List Input
  | [] => []
  | l :: rest => realiseLine l (rest.getD 1 {}) :: realise rest

/-- The start state of an event-level program (spec/95_test_vectors.md, section 3): the warm-up is over and the
synchronizers and edge detectors hold the levels that the events of the first two lines need. -/
def preload (prog : List EventLine) (s : State) : State :=
  let l0 := prog.getD 0 {}
  let l1 := prog.getD 1 {}
  { s with
    sync :=
      { clkS0 := l1.clk.isSome, clkS1 := l0.clk.isSome, clkP := false
        datS0 := l1.clk.getD false, datS1 := l0.clk.getD false
        latS0 := l1.latch, latS1 := l0.latch, latP := false
        goS0 := l1.go, goS1 := l0.go, goP := false
        rstS0 := !l1.rst, rstS1 := !l0.rst, rstP := true
        arm := Config.armCycles }
    env := { s.env with stim := realise prog } }

end Sys2Proof.Machine
end

