-- ==== Sys2Proof/Machine/Step.lean ====
section
/-! DEFINITION. The step: one clock cycle of the block (R43). -/

namespace Sys2Proof.Machine

/-- R44: a cycle with `rst_n == 0` resets; else the cycle runs what it holds. A cycle that holds no instruction is
a cycle of the block all the same: the FSM steps, and a reserved word gets its error response (R64, R66). -/
def step (s : State) : Host.Outcome State Fault Refusal :=
  if (sample s).rstN then
    match fetch s with
    | some i => exec i s
    | none => .next (eventCycle (detectEvents s) s)
  else .next (resetCycle s)

/-- The state in which the next step runs the instruction of a word of spec/opcode_table.json: a command word is
presented on the command port, an event is shown by the synchronizers (assumption 6). -/
def State.withFetchWord (s : State) (nbits w : Nat) : State := present s (tableEncoding nbits w)

end Sys2Proof.Machine
end

