-- ==== Sys2Proof/WellFormed.lean ====
section
/-! DEFINITION. Which syntax is well formed: an instruction (R62), an event-level program (R74), and a choice of
the parameters (R6, through `Params.Legal` of Config). -/

namespace Sys2Proof

/-- R61, R62: the only operands are the two START bits and the DATA level of a CLOCK edge, taken unchanged. Their
types admit exactly the values the encodings admit, so no instruction of `Instr` is ill formed. -/
def Instr.wellFormed (_ : Instr) : Bool := true

/-- R74: two events of the same kind are at least 2 cycles apart; here for two neighbouring lines. -/
def EventLine.mayFollow (a b : EventLine) : Bool :=
  !(a.clk.isSome && b.clk.isSome) && !(a.latch && b.latch) && !(a.go && b.go) && !(a.rst && b.rst)

/-- R74: an event-level program that can be realised at pin level. One that places two events of the same kind
closer than 2 cycles is ill formed. -/
def EventLine.wellFormedProgram : List EventLine → Bool
  | [] => true
  | [_] => true
  | a :: b :: rest => a.mayFollow b && EventLine.wellFormedProgram (b :: rest)

end Sys2Proof
end

