-- ==== Sys2Proof/Safety.lean ====
section
/-! DEFINITION. The terms in which the statements speak: the cycles of the block, what a rule of the spec writes,
the invariants of a session, and the runs the statements are about. -/

namespace Sys2Proof.Safety

open Sys2Proof.Machine

/-! ### Cycles -/

/-- The event signals of the cycle in which exec runs `i` at `s`: those the state shows (R59), and `i` itself where
it is an event. -/
def eventsDuring (i : Instr) (s : State) : Events :=
  match i with
  | .nop => detectEvents s
  | .newpkt => detectEvents s
  | .rdcap => detectEvents s
  | .rdlast => detectEvents s
  | .chg => detectEvents s
  | .rdgo => detectEvents s
  | .clrgo => detectEvents s
  | .rdrst => detectEvents s
  | .clrrst => detectEvents s
  | .sen => detectEvents s
  | .sdis => detectEvents s
  | .stat => detectEvents s
  | .start _ _ => detectEvents s
  | .rdacc => detectEvents s
  | .clkRise d => { detectEvents s with clkRise := true, dataBit := d }
  | .latchRise => { detectEvents s with latchRise := true }
  | .goRise => { detectEvents s with goRise := true }
  | .resetFall => { detectEvents s with rstFall := true }

/-- The command of the cycle in which exec runs `i` at `s`: `i` itself where it is a command, else the command the
sample presents. -/
def commandDuring (i : Instr) (s : State) : Option Instr := if i.isCommand then some i else portCommand s

/-- One cycle with `rst_n == 1` takes `s` to `t`, with the event signals `ev` and the command `c` on the port
(`none`: no command, or a reserved word). Every step without reset is one, and so is every run of one instruction
by exec. -/
def Cycle (ev : Events) (c : Option Instr) (s t : State) : Prop :=
  (∃ i, exec i s = .next t ∧ ev = eventsDuring i s ∧ c = commandDuring i s) ∨
  ((sample s).rstN = true ∧ step s = .next t ∧ ev = detectEvents s ∧ c = portCommand s)

/-- The state after the cycle of `s` in which the port holds no command. `StepWithoutCommand` ties it to
step. -/
def quiet (s : State) : State := commandCycle noCommand s

/-- The state after the cycle of `s` in which no CLOCK edge is detected, all else being the same. -/
def withoutClock (s : State) : State := eventCycle { detectEvents s with clkRise := false } s

/-- The state after the cycle of `s` in which no LATCH edge is detected, all else being the same. -/
def withoutLatch (s : State) : State := eventCycle { detectEvents s with latchRise := false } s

/-- The state after the cycle of `s` in which no GO edge is detected, all else being the same. -/
def withoutGo (s : State) : State := eventCycle { detectEvents s with goRise := false } s

/-- The state after the cycle of `s` in which no RESET edge is detected, all else being the same. -/
def withoutReset (s : State) : State := eventCycle { detectEvents s with rstFall := false } s

/-- The command `i` is on the port and is accepted: it is refused only when it is mutating and a session is active
(R66, R132). -/
def accepted (c : Option Instr) (s : State) (i : Instr) : Prop :=
  c = some i ∧ (i.mutating = true → sessionActive s = false)

/-- An accepted START (R125). -/
def startAccepted (c : Option Instr) (s : State) : Prop := ∃ skip go, accepted c s (.start skip go)

/-- R61, R72 and R64 for a command without arguments: its word is `0000` and then `op`, and a word with that opcode
decodes to the command when `cmd[7:4]` is 0 and is reserved when it is not. -/
def encodedAs (op : BitVec 4) (i : Instr) : Prop :=
  encode i = .command (0#4 ++ op) ∧
  ∀ w : CommandWord, w.extractLsb' 0 4 = op → commandOf w = if w.extractLsb' 4 4 = 0 then some i else none

/-- The value a performed command answers (R66), by the command's own rule. -/
def responseValue (s : State) : Instr → Word
  | .nop => 0
  | .newpkt => if s.store.pending then 1 else 0
  | .rdcap => s.store.cur
  | .rdlast => s.store.last
  | .chg => if s.store.cur = s.store.last then 0 else 1
  | .rdgo => if s.latches.goL then 1 else 0
  | .clrgo => 0
  | .rdrst => if s.latches.rstL then 1 else 0
  | .clrrst => 0
  | .sen => 0
  | .sdis => 0
  | .stat => statusWord Config.params s
  | .start _ _ => 0
  | .rdacc => s.sampler.acc
  | .clkRise _ => 0
  | .latchRise => 0
  | .goRise => 0
  | .resetFall => 0

/-! ### What the rules write -/

/-- R33: the pulse registers of a cycle in which no rule sets one. -/
def noPulses (s : State) : OutputRegs :=
  { flashStart := false, viewValid := false, alive := false, silenceWarn := false, attemptFail := false,
    viewFrame := s.out.viewFrame }

/-- R114: the FSM's registers after the blink step. -/
def blinked (tick : Bool) (o : Orchestration) : Orchestration :=
  if tick = true then
    if o.blinkCnt.toNat + 1 ≥ Config.params.blinkTicks then { o with blinkCnt := 0, phase := !o.phase }
    else { o with blinkCnt := o.blinkCnt + 1 }
  else o

/-- R104, ENTER_TESTING: the FSM's registers. -/
def testingEntered (o : Orchestration) : Orchestration :=
  { o with fsm := .testing, wdCnt := 0, blinkCnt := 0, phase := false }

/-- R77 to R80: the accumulator with this cycle's CLOCK edge applied, `a1`. -/
def withClock (ev : Events) (acc : Word) : Word :=
  if ev.clkRise = true then (acc <<< 1) ||| (if ev.dataBit = true then 1 else 0) else acc

/-- `capture` (R86): the sampler is enabled and a LATCH edge is detected. -/
def captures (ev : Events) (s : State) : Bool := s.sampler.en && ev.latchRise

/-- `pend_clr` of R45: an accepted NEWPKT, or the FSM's read-and-clear in `TESTING` (R111). -/
def PendClr (c : Option Instr) (s : State) : Prop :=
  accepted c s .newpkt ∨ (s.orch.fsm = .testing ∧ s.latches.rstL = false)

/-- `go_clr` of R45: an accepted CLRGO or START, or an FSM clear (R106, R110, and R104 on entry to
`AWAIT_GO_TEST`). -/
def GoClr (c : Option Instr) (s : State) : Prop :=
  accepted c s .clrgo ∨ startAccepted c s ∨
  ((s.orch.fsm = .awaitGo ∨ s.orch.fsm = .awaitGoTest) ∧ s.latches.goL = true) ∨
  (s.orch.fsm = .burnFlash ∧ (sample s).flashDone = true ∧ s.latches.rstL = false ∧ (sample s).flashOk = true)

/-- `rst_clr` of R45: an accepted CLRRST or START, or an FSM clear (R106, R108 to R111). -/
def RstClr (c : Option Instr) (s : State) : Prop :=
  accepted c s .clrrst ∨ startAccepted c s ∨
  ((s.orch.fsm = .awaitGo ∨ s.orch.fsm = .awaitGoTest) ∧
    (s.latches.goL = true ∨ (s.latches.rstL = true ∧ s.orch.cfgRequireGo = false))) ∨
  (s.orch.fsm = .burnFlash ∧ (sample s).flashDone = true ∧ s.latches.rstL = true) ∨
  ((s.orch.fsm = .burnDelay ∨ s.orch.fsm = .testing) ∧ s.latches.rstL = true)

/-! ### Invariants -/

/-- What every state of a run from reset keeps, apart from the counters: the legal `fsm` states, who owns the pins
(R37), what `result`, `attempts` and the configuration say of the session (R27, R28, R107), the response (R66,
R67), and when a pulse can stand (R33, R104, R108, R111, R116). -/
abbrev SessionInvariant (s : State) : Prop :=
  s.orch.fsm ≠ .unused ∧
  (s.sampler.en = true → s.orch.fsm = .idle ∨ s.orch.fsm = .testing ∨ s.orch.fsm = .done) ∧
  (s.orch.fsm = .testing → s.sampler.en = true) ∧
  (s.orch.result = .noResult ↔ s.orch.fsm ≠ .done) ∧
  (s.orch.cfgSkipBurn = true →
    s.orch.fsm ≠ .burnFlash ∧ s.orch.fsm ≠ .burnDelay ∧ s.orch.fsm ≠ .awaitGoTest ∧ s.orch.attempts = 0) ∧
  (s.orch.fsm = .idle ∨ s.orch.fsm = .awaitGo → s.orch.attempts = 0) ∧
  s.rsp.err ≠ .unused ∧
  (s.rsp.valid = false → s.rsp.err = .ok) ∧
  (s.rsp.valid = false ∨ s.rsp.err ≠ .ok → s.rsp.data = 0) ∧
  (s.out.flashStart = true → s.orch.fsm = .burnFlash) ∧
  (s.out.attemptFail = true → s.orch.fsm = .burnDelay ∨ s.orch.fsm = .done) ∧
  (s.out.viewValid = true ∨ s.out.alive = true ∨ s.out.silenceWarn = true → s.orch.fsm = .testing) ∧
  ¬ (s.out.viewValid = true ∧ s.out.alive = true) ∧
  ¬ (s.out.viewValid = true ∧ s.out.silenceWarn = true) ∧
  ¬ (s.out.alive = true ∧ s.out.silenceWarn = true)

/-- What every state of a run from reset keeps of the counters: each stays below its limit (R109, R114, R116), and
no session starts more than `MAX_FLASH_ATTEMPTS` attempts (R28, R121). -/
abbrev CounterInvariant (p : Params) (s : State) : Prop :=
  s.orch.blinkCnt.toNat < p.blinkTicks ∧
  s.orch.wdCnt.toNat < p.watchdogTicks ∧
  s.orch.attempts.toNat ≤ p.maxFlashAttempts ∧
  (s.orch.fsm = .burnDelay → s.orch.attempts.toNat < p.maxFlashAttempts) ∧
  (s.orch.fsm = .burnDelay → s.orch.dlyCnt = 0 ∨ s.orch.dlyCnt.toNat < p.retryDelayTicks)

/-! ### Runs -/

/-- The states that a run from reset reaches, whatever the environment supplies in each cycle (R11, U21). -/
inductive Reachable : State → Prop where
  | reset (e : Environment) : Reachable { State.reset with env := e }
  | step (s t : State) : Reachable s → step s = .next t → Reachable t

/-- `Clocked bits s t`: cycles with `en == 1` and no LATCH edge take `s` to `t`, and `bits` are the DATA levels of
the CLOCK edges among them, the first one first. -/
inductive Clocked : List Bool → State → State → Prop where
  | refl (s : State) : Clocked [] s s
  | wait (ev : Events) (c : Option Instr) (bits : List Bool) (s u t : State) :
      Cycle ev c s u → s.sampler.en = true → ev.latchRise = false → ev.clkRise = false → Clocked bits u t →
      Clocked bits s t
  | clock (ev : Events) (c : Option Instr) (bits : List Bool) (s u t : State) :
      Cycle ev c s u → s.sampler.en = true → ev.latchRise = false → ev.clkRise = true → Clocked bits u t →
      Clocked (ev.dataBit :: bits) s t

/-- R50: the number whose binary digits are `bits`, most significant bit first. -/
def msbFirst : List Bool → Nat
  | [] => 0
  | d :: rest => (if d then 2 ^ rest.length else 0) + msbFirst rest

/-- `SessionRun n s`: steps without reset have taken a state just after START to `s`, all of them inside the
session, and `n` of the states after it had `flash_start == 1`. -/
inductive SessionRun : Nat → State → Prop where
  | begin (s : State) : s.orch.fsm = .awaitGo → s.orch.attempts = 0 → SessionRun 0 s
  | step (n : Nat) (s t : State) : SessionRun n s → sessionActive s = true → (sample s).rstN = true →
      step s = .next t → SessionRun (if t.out.flashStart then n + 1 else n) t

/-- The event signals that a line of an event-level program gives (R74). -/
def lineEvents (l : EventLine) : Events :=
  { rstFall := l.rst, goRise := l.go, latchRise := l.latch, clkRise := l.clk.isSome, dataBit := l.clk.getD false }

/-! ### Duties of the environment -/

/-- R146: every level of a sampled pin, but the last, which is still held, lasts at least `n` cycles. `run` is how
long the level `b` before the list has lasted. -/
def levelsHeld (n : Nat) : Bool → Nat → List Bool → Prop
  | _, _, [] => True
  | b, run, x :: rest => if x = b then levelsHeld n b (run + 1) rest else n ≤ run ∧ levelsHeld n x 1 rest

/-- R147: a sync input that is a one-cycle pulse, read as never 1 in two neighbouring cycles. R147 does not say
whether two pulses may come in neighbouring cycles, which a tick period of one cycle needs; they are refused here
(DESIGN CHOICE, assumption 15, unsafe). -/
def pulsed : List Bool → Prop
  | [] => True
  | [_] => True
  | a :: b :: rest => ¬ (a = true ∧ b = true) ∧ pulsed (b :: rest)

/-- R146 on a list of sampled levels, whatever level the pin was at before it (91_not_in_source.md N17: no idle level
is assumed). DESIGN CHOICE (assumption 13), safe: the level of the first sample may have begun earlier, so it counts
as held long enough however soon it ends. -/
def minLevelsHeld (n : Nat) : List Bool → Prop
  | [] => True
  | b :: rest => levelsHeld n b n rest

/-- R146, R147: the duties the environment has on the samples it supplies, for the async levels and for `tick` and
`flash_done`. The step needs none of them: it takes every sample. What the list leaves unseen before its first and
after its last sample breaks no duty, and a level is measured by the samples that show it (DESIGN CHOICE,
assumption 13). Two ticks in neighbouring cycles, as in programs Q3, Q4, Q5 and Q10 of spec/95_test_vectors.md,
count as one held tick and break the duty (DESIGN CHOICE, assumption 15). -/
def EnvironmentDuties (p : Params) (l : List Input) : Prop :=
  minLevelsHeld p.minLevelCycles (l.map Input.busClock) ∧
  minLevelsHeld p.minLevelCycles (l.map Input.busLatch) ∧
  minLevelsHeld p.minLevelCycles (l.map Input.goIn) ∧
  minLevelsHeld p.minLevelCycles (l.map Input.resetIn) ∧
  pulsed (l.map Input.tick) ∧ pulsed (l.map Input.flashDone)

end Sys2Proof.Safety
end

