-- ==== Sys2Proof/Certificates/Slice0/Obligations.lean ====
section
/-! DEFINITION. The statements for the provers. A docstring names the rule of spec/ a statement formalises, or says
that it is derived. A statement over `Cycle` holds for every step without reset and for every run of one
instruction by exec. -/

open Sys2Proof Sys2Proof.Machine Sys2Proof.Safety

/-! ### Encoding -/

/-- Derived from R61, R63, R65, R72 and R60. Decoding the encoding of an instruction gives it back, with every
operand at every value, and a command word that decodes is the encoding of what it decodes to. -/
def Obligations.DecodeInvertsEncode : Prop :=
  (∀ i : Instr, i.wellFormed = true → decode (encode i) = some i) ∧
  (∀ (w : CommandWord) (i : Instr), commandOf w = some i → encode i = .command w) ∧
  (∀ e : EventVector, eventsToVector (eventsOfVector e) = e) ∧
  (∀ e : EventVector, decodeEvents e = [] ↔ e.extractLsb' 1 4 = 0)

/-- R59 and the bit positions of R60: the event signals from the state, and where each stands in the event
vector. -/
def Obligations.EventSignalsFromState : Prop :=
  ∀ s : State,
    (detectEvents s).clkRise = (decide (s.sync.arm = 3) && s.sync.clkS1 && !s.sync.clkP) ∧
    (detectEvents s).latchRise = (decide (s.sync.arm = 3) && s.sync.latS1 && !s.sync.latP) ∧
    (detectEvents s).dataBit = s.sync.datS1 ∧
    (detectEvents s).goRise = (decide (s.sync.arm = 3) && s.sync.goS1 && !s.sync.goP) ∧
    (detectEvents s).rstFall = (decide (s.sync.arm = 3) && !s.sync.rstS1 && s.sync.rstP) ∧
    (eventsToVector (detectEvents s)).getLsbD 0 = (detectEvents s).dataBit ∧
    (eventsToVector (detectEvents s)).getLsbD 1 = (detectEvents s).clkRise ∧
    (eventsToVector (detectEvents s)).getLsbD 2 = (detectEvents s).latchRise ∧
    (eventsToVector (detectEvents s)).getLsbD 3 = (detectEvents s).goRise ∧
    (eventsToVector (detectEvents s)).getLsbD 4 = (detectEvents s).rstFall

/-- R64: which words are reserved, and that presenting one changes nothing but the response registers,
whatever the session does. -/
def Obligations.ReservedWordsAreRefused : Prop :=
  (∀ w : CommandWord, commandOf w = none ↔
    (w.extractLsb' 0 4 = 0xE ∨ w.extractLsb' 0 4 = 0xF) ∨ w.extractLsb' 6 2 ≠ 0 ∨
    (w.extractLsb' 0 4 ≠ 0xC ∧ w.extractLsb' 4 2 ≠ 0)) ∧
  (∀ s : State, (sample s).rstN = true → (sample s).cmdValid = true → commandOf (sample s).cmd = none →
    step s = .next { quiet s with rsp := { valid := true, data := 0, err := .reserved } })

/-- A sanity statement on words written out from R63, R64 and spec/95_test_vectors.md section 2.5. -/
def Obligations.KnownWordsDecode : Prop :=
  commandOf 0b00000000 = some .nop ∧ commandOf 0b00000001 = some .newpkt ∧ commandOf 0b00000110 = some .clrgo ∧
  commandOf 0b00001001 = some .sen ∧ commandOf 0b00001101 = some .rdacc ∧
  commandOf 0b00011100 = some (.start true false) ∧ commandOf 0b00101100 = some (.start false true) ∧
  decodeCommand 0b00001110 = .reserved .opcode ∧ decodeCommand 0b00011101 = .reserved .argumentBits ∧
  decodeCommand 0b01000000 = .reserved .highBits ∧
  decode (.events 0b00011) = some (.clkRise true) ∧ decode (.events 0b10000) = some .resetFall

/-! ### The step -/

/-- Derived from R43 and R66: a step that finds a defined command word on the port runs exec of that command. -/
def Obligations.StepRunsPresentedCommand : Prop :=
  ∀ (s : State) (i : Instr), (sample s).rstN = true → (sample s).cmdValid = true →
    decodeCommand (sample s).cmd = .command i → step s = exec i s

/-- Derived from R60 and R44: events are not exclusive. A step at which an event is detected is exec of that event, for every event
detected and whatever command the same cycle holds. -/
def Obligations.StepRunsEveryDetectedEvent : Prop :=
  ∀ (s : State) (i : Instr), (sample s).rstN = true → i ∈ decodeEvents (eventsToVector (detectEvents s)) →
    step s = exec i s

/-- Derived from R66 and R44: a step that holds no command is the quiet cycle, and one with a reserved word differs from
it in the response registers. The other statements that speak of `quiet` rest on this one. -/
def Obligations.StepWithoutCommand : Prop :=
  ∀ s : State, (sample s).rstN = true → portCommand s = none →
    step s = .next { quiet s with rsp :=
      if (sample s).cmdValid then { valid := true, data := 0, err := .reserved }
      else { valid := false, data := 0, err := .ok } }

/-- Derived from R128: every input sequence is accepted and every cycle has a next state; so has every
instruction. -/
def Obligations.EveryCycleHasNextState : Prop :=
  (∀ s : State, ∃ t, step s = .next t) ∧ (∀ (i : Instr) (s : State), ∃ t, exec i s = .next t)

/-- R139, with the reset values of R40 written out: a cycle with `rst_n == 0` ends in the reset state from every
state, and so again while it is held low. -/
def Obligations.ResetCycleLoadsResetState : Prop :=
  ∀ s : State, (sample s).rstN = false → ∃ t, step s = .next t ∧
    t.sync = ⟨false, false, false, false, false, false, false, false, false, false, false, false, false, false, 0⟩ ∧
    t.sampler = { acc := 0, en := false } ∧
    t.store = { cur := 0, last := 0, pending := false } ∧
    t.latches = { goL := false, rstL := false } ∧
    t.orch = { fsm := .idle, result := .noResult, attempts := 0, cfgSkipBurn := false, cfgRequireGo := false,
               blinkCnt := 0, phase := false, wdCnt := 0, dlyCnt := 0 } ∧
    t.out = { flashStart := false, viewValid := false, alive := false, silenceWarn := false, attemptFail := false,
              viewFrame := 0 } ∧
    t.rsp = { valid := false, data := 0, err := .ok } ∧
    t = { State.reset with env := t.env }

/-- R140: the outputs in the reset state. -/
def Obligations.ResetStateOutputs : Prop :=
  ∀ p : Params, outputs p State.reset =
    { rspValid := false, rspData := 0, rspErr := 0, samplerEn := false, flashEn := false, pinSel := 0b00,
      flashStart := false, led := 0x00, viewValid := false, viewFrame := 0, alive := false, silenceWarn := false,
      attemptFail := false, sessionDone := false, sessionResult := 0 }

/-- R35, with R71 and R115: the derived outputs, for every choice of the parameters. -/
def Obligations.DerivedOutputs : Prop :=
  ∀ (p : Params) (s : State),
    (outputs p s).flashEn = decide (s.orch.fsm = .burnFlash ∨ s.orch.fsm = .burnDelay) ∧
    (outputs p s).samplerEn = s.sampler.en ∧
    (outputs p s).pinSel = BitVec.ofBool s.sampler.en ++ BitVec.ofBool (outputs p s).flashEn ∧
    (outputs p s).led =
      (if s.orch.fsm = .awaitGo ∨ s.orch.fsm = .awaitGoTest then (if s.orch.phase then p.patAwait1 else p.patAwait0)
       else if s.orch.fsm = .testing then (if s.orch.phase then p.patTest1 else p.patTest0) else 0x00) ∧
    sessionActive s = decide (s.orch.fsm = .awaitGo ∨ s.orch.fsm = .burnFlash ∨ s.orch.fsm = .burnDelay ∨
      s.orch.fsm = .awaitGoTest ∨ s.orch.fsm = .testing) ∧
    (outputs p s).sessionDone = decide (s.orch.fsm = .done) ∧
    (outputs p s).sessionResult = resultCode s.orch.result

/-! ### Every cycle -/

/-- Derived from R15, R16 and R17: the synchronizers, edge detectors and the warm-up counter in every cycle,
whatever runs in it. -/
def Obligations.SynchronizersShiftEveryCycle : Prop :=
  ∀ (ev : Events) (c : Option Instr) (s t : State), Cycle ev c s t →
    t.sync =
      { clkS0 := (sample s).busClock, clkS1 := s.sync.clkS0, clkP := s.sync.clkS1
        datS0 := (sample s).busData, datS1 := s.sync.datS0
        latS0 := (sample s).busLatch, latS1 := s.sync.latS0, latP := s.sync.latS1
        goS0 := (sample s).goIn, goS1 := s.sync.goS0, goP := s.sync.goS1
        rstS0 := (sample s).resetIn, rstS1 := s.sync.rstS0, rstP := s.sync.rstS1
        arm := if s.sync.arm = 3 then 3 else s.sync.arm + 1 }

/-- R80, R86 and R87: the next accumulator, and the capture, in every cycle. -/
def Obligations.AccumulatorAndCapture : Prop :=
  ∀ (ev : Events) (c : Option Instr) (s t : State), Cycle ev c s t →
    t.sampler.acc =
      (if s.sampler.en = false ∧ t.sampler.en = true then 0
       else if s.sampler.en = true ∧ ev.latchRise = true then 0
       else if s.sampler.en = true then withClock ev s.sampler.acc
       else s.sampler.acc) ∧
    (s.sampler.en = true ∧ ev.latchRise = true →
      t.store = { cur := withClock ev s.sampler.acc, last := s.store.cur, pending := true }) ∧
    (¬ (s.sampler.en = true ∧ ev.latchRise = true) → t.store.cur = s.store.cur ∧ t.store.last = s.store.last)

/-- Derived from R75: while the sampler is disabled no bus event reaches the accumulator or the Packet Store. Two
cycles from one state with the same command and different bus events leave them the same. -/
def Obligations.DisabledSamplerIgnoresBus : Prop :=
  ∀ (ev ev' : Events) (c : Option Instr) (s t t' : State), s.sampler.en = false →
    Cycle ev c s t → Cycle ev' c s t' →
    t.sampler = t'.sampler ∧ t.store = t'.store ∧
    t.store.cur = s.store.cur ∧ t.store.last = s.store.last ∧
    (t.sampler.en = false → t.sampler.acc = s.sampler.acc) ∧ (t.store.pending = true → s.store.pending = true)

/-- R45: a set of a flag wins over a clear of the same cycle, and the flag stays where there is neither. -/
def Obligations.SetWinsOverClear : Prop :=
  ∀ (ev : Events) (c : Option Instr) (s t : State), Cycle ev c s t →
    (t.store.pending = true ↔ captures ev s = true ∨ (s.store.pending = true ∧ ¬ PendClr c s)) ∧
    (t.latches.goL = true ↔ ev.goRise = true ∨ (s.latches.goL = true ∧ ¬ GoClr c s)) ∧
    (t.latches.rstL = true ↔ ev.rstFall = true ∨ (s.latches.rstL = true ∧ ¬ RstClr c s))

/-- Derived from R36, row `en`, with R82, R83, R85, R104, R111 and R125: the one next value of the enable in every
cycle. -/
def Obligations.EnableHasOneWriter : Prop :=
  ∀ (ev : Events) (c : Option Instr) (s t : State), Cycle ev c s t →
    (t.sampler.en = true ↔
      accepted c s .sen ∨
      (s.orch.fsm ≠ .testing ∧ t.orch.fsm = .testing) ∨
      (s.sampler.en = true ∧ ¬ accepted c s .sdis ∧ ¬ startAccepted c s ∧
        ¬ (s.orch.fsm = .testing ∧ s.latches.rstL = true)))

/-- R66: the response registers after every step. -/
def Obligations.ResponseEveryStep : Prop :=
  ∀ s t : State, step s = .next t →
    ((sample s).rstN = false → t.rsp = { valid := false, data := 0, err := .ok }) ∧
    ((sample s).rstN = true → (sample s).cmdValid = false → t.rsp = { valid := false, data := 0, err := .ok }) ∧
    ((sample s).rstN = true → (sample s).cmdValid = true → commandOf (sample s).cmd = none →
      t.rsp = { valid := true, data := 0, err := .reserved }) ∧
    (∀ i, (sample s).rstN = true → (sample s).cmdValid = true → commandOf (sample s).cmd = some i →
      t.rsp = if i.mutating = true ∧ sessionActive s = true then { valid := true, data := 0, err := .busy }
        else { valid := true, data := responseValue s i, err := .ok })

/-- Derived from R130 (row `ERR_BUSY`) and R132: a mutating command during a session changes
nothing but the response registers. -/
def Obligations.BusyCommandOnlyAnswers : Prop :=
  ∀ (s : State) (i : Instr), i.mutating = true → sessionActive s = true →
    exec i s = .next { quiet s with rsp := { valid := true, data := 0, err := .busy } }

/-- Derived from R132: the non-mutating commands are performed in every state, and outside a session the FSM writes none of
`pending`, `go_l`, `rst_l` and `en`: where no mutating command is presented either, only events change them. -/
def Obligations.OwnershipOutsideSession : Prop :=
  (∀ (s : State) (i : Instr), i.isCommand = true → i.mutating = false →
    exec i s = .next { quiet s with rsp := { valid := true, data := responseValue s i, err := .ok } }) ∧
  (∀ (ev : Events) (c : Option Instr) (s t : State), Cycle ev c s t → sessionActive s = false →
    (∀ i, c = some i → i.mutating = false) →
    t.sampler.en = s.sampler.en ∧
    t.store.pending = (captures ev s || s.store.pending) ∧
    t.latches.goL = (ev.goRise || s.latches.goL) ∧
    t.latches.rstL = (ev.rstFall || s.latches.rstL))

/-! ### Commands -/

/-- R127: NOP. -/
def Obligations.NopOnlyAnswers : Prop :=
  encodedAs 0x0 .nop ∧
  ∀ s : State, exec .nop s = .next { quiet s with rsp := { valid := true, data := 0, err := .ok } }

/-- R89: NEWPKT reads `pending` of the pre-state and clears it, unless a capture happens in the same cycle; during a
session it is refused. -/
def Obligations.NewpktReadsAndClears : Prop :=
  encodedAs 0x1 .newpkt ∧
  (∀ s : State, sessionActive s = false →
    exec .newpkt s = .next { quiet s with
      store := { (quiet s).store with pending := s.sampler.en && (detectEvents s).latchRise }
      rsp := { valid := true, data := if s.store.pending then 1 else 0, err := .ok } }) ∧
  (∀ s : State, sessionActive s = true →
    exec .newpkt s = .next { quiet s with rsp := { valid := true, data := 0, err := .busy } })

/-- R90, R91, R92: RDCAP, RDLAST and CHG read the Packet Store of the pre-state and change nothing but the response
registers. -/
def Obligations.StoreReadsAnswerPreState : Prop :=
  encodedAs 0x2 .rdcap ∧ encodedAs 0x3 .rdlast ∧ encodedAs 0x4 .chg ∧
  ∀ s : State,
    exec .rdcap s = .next { quiet s with rsp := { valid := true, data := s.store.cur, err := .ok } } ∧
    exec .rdlast s = .next { quiet s with rsp := { valid := true, data := s.store.last, err := .ok } } ∧
    exec .chg s = .next { quiet s with
      rsp := { valid := true, data := if s.store.cur = s.store.last then 0 else 1, err := .ok } }

/-- R97, R99: RDGO and RDRST read a latch of the pre-state and change nothing but the response registers. -/
def Obligations.LatchReadsAnswerPreState : Prop :=
  encodedAs 0x5 .rdgo ∧ encodedAs 0x7 .rdrst ∧
  ∀ s : State,
    exec .rdgo s = .next { quiet s with
      rsp := { valid := true, data := if s.latches.goL then 1 else 0, err := .ok } } ∧
    exec .rdrst s = .next { quiet s with
      rsp := { valid := true, data := if s.latches.rstL then 1 else 0, err := .ok } }

/-- R98, R100: CLRGO and CLRRST clear one latch, unless its edge comes in the same cycle, and leave the other;
during a session they are refused. -/
def Obligations.LatchClears : Prop :=
  encodedAs 0x6 .clrgo ∧ encodedAs 0x8 .clrrst ∧
  (∀ s : State, sessionActive s = false →
    exec .clrgo s = .next { quiet s with
      latches := { (quiet s).latches with goL := (detectEvents s).goRise }
      rsp := { valid := true, data := 0, err := .ok } } ∧
    exec .clrrst s = .next { quiet s with
      latches := { (quiet s).latches with rstL := (detectEvents s).rstFall }
      rsp := { valid := true, data := 0, err := .ok } }) ∧
  (∀ s : State, sessionActive s = true →
    exec .clrgo s = .next { quiet s with rsp := { valid := true, data := 0, err := .busy } } ∧
    exec .clrrst s = .next { quiet s with rsp := { valid := true, data := 0, err := .busy } })

/-- R82: SEN. Enabling clears the accumulator and drops the cycle's bus events; while already enabled it changes
nothing; during a session it is refused. -/
def Obligations.SenEnablesAndClears : Prop :=
  encodedAs 0x9 .sen ∧
  (∀ s : State, sessionActive s = false →
    exec .sen s = .next { quiet s with
      sampler := if s.sampler.en = true then (quiet s).sampler else { acc := 0, en := true }
      rsp := { valid := true, data := 0, err := .ok } }) ∧
  (∀ s : State, sessionActive s = true →
    exec .sen s = .next { quiet s with rsp := { valid := true, data := 0, err := .busy } })

/-- R83: SDIS. The bus events of its cycle still act, and `acc` is kept; during a session it is refused. -/
def Obligations.SdisDisables : Prop :=
  encodedAs 0xA .sdis ∧
  (∀ s : State, sessionActive s = false →
    exec .sdis s = .next { quiet s with
      sampler := { (quiet s).sampler with en := false }
      rsp := { valid := true, data := 0, err := .ok } }) ∧
  (∀ s : State, sessionActive s = true →
    exec .sdis s = .next { quiet s with rsp := { valid := true, data := 0, err := .busy } })

/-- R84: RDACC reads the accumulator of the pre-state, also during a session. -/
def Obligations.RdaccAnswersAccumulator : Prop :=
  encodedAs 0xD .rdacc ∧
  ∀ s : State, exec .rdacc s = .next { quiet s with rsp := { valid := true, data := s.sampler.acc, err := .ok } }

/-- R126: STAT reads the status word of the pre-state, also during a session. `StatusWordFields` says what the word
holds in its other bits. -/
def Obligations.StatAnswersStatusWord : Prop :=
  encodedAs 0xB .stat ∧ statusWord Config.params State.reset = 0x00000000 ∧
  (∀ s : State, (statusWord Config.params s).getLsbD 7 = false ∧ (statusWord Config.params s).extractLsb' 17 7 = 0) ∧
  ∀ s : State, exec .stat s = .next { quiet s with
    rsp := { valid := true, data := statusWord Config.params s, err := .ok } }

/-- R68, with the codes of R69 and R70: every field of the status word. -/
def Obligations.StatusWordFields : Prop :=
  ∀ (p : Params) (s : State),
    (statusWord p s).getLsbD 0 = s.store.pending ∧
    (statusWord p s).getLsbD 1 = decide (s.store.cur ≠ s.store.last) ∧
    (statusWord p s).getLsbD 2 = s.latches.goL ∧
    (statusWord p s).getLsbD 3 = s.latches.rstL ∧
    (statusWord p s).getLsbD 4 = s.sampler.en ∧
    (statusWord p s).getLsbD 5 = flashEn s ∧
    (statusWord p s).getLsbD 6 = sessionActive s ∧
    (statusWord p s).getLsbD 7 = false ∧
    (statusWord p s).extractLsb' 8 3 =
      (match s.orch.fsm with
       | .idle => 0 | .awaitGo => 1 | .burnFlash => 2 | .burnDelay => 3 | .awaitGoTest => 4 | .testing => 5
       | .done => 6 | .unused => 7) ∧
    (statusWord p s).extractLsb' 11 2 =
      (match s.orch.result with
       | .noResult => 0 | .success => 1 | .flashFail => 2 | .aborted => 3) ∧
    (statusWord p s).extractLsb' 13 2 = s.orch.attempts ∧
    (statusWord p s).getLsbD 15 = s.orch.cfgSkipBurn ∧
    (statusWord p s).getLsbD 16 = s.orch.cfgRequireGo ∧
    (statusWord p s).extractLsb' 17 7 = 0 ∧
    (statusWord p s).extractLsb' 24 8 = led p s

/-- R125: START. It loads the configuration, restarts the session's registers, clears both latches unless an edge
comes in the same cycle, disables the sampler and touches neither the frames nor `pending`; during a session it is
refused. -/
def Obligations.StartBeginsSession : Prop :=
  (∀ skip go : Bool, encode (.start skip go) = .command (0#2 ++ BitVec.ofBool go ++ BitVec.ofBool skip ++ 0xC#4)) ∧
  (∀ w : CommandWord, w.extractLsb' 0 4 = 0xC → w.extractLsb' 6 2 ≠ 0 → commandOf w = none) ∧
  (∀ (skip go : Bool) (s : State), sessionActive s = false →
    exec (.start skip go) s = .next { quiet s with
      sampler := { (quiet s).sampler with en := false }
      latches := { goL := (detectEvents s).goRise, rstL := (detectEvents s).rstFall }
      orch := { fsm := .awaitGo, result := .noResult, attempts := 0, cfgSkipBurn := skip, cfgRequireGo := go,
                blinkCnt := 0, phase := false, wdCnt := 0, dlyCnt := 0 }
      rsp := { valid := true, data := 0, err := .ok } }) ∧
  (∀ (skip go : Bool) (s : State), sessionActive s = true →
    exec (.start skip go) s = .next { quiet s with rsp := { valid := true, data := 0, err := .busy } })

/-- Derived from R49 and R89: two NEWPKTs in consecutive cycles with no capture in the first answer the flag and then 0. -/
def Obligations.NewpktTwiceAnswersZero : Prop :=
  ∀ s t u : State, sessionActive s = false → (s.sampler.en && (detectEvents s).latchRise) = false →
    exec .newpkt s = .next t → exec .newpkt t = .next u →
    t.rsp = { valid := true, data := if s.store.pending then 1 else 0, err := .ok } ∧
    u.rsp = { valid := true, data := 0, err := .ok }

/-! ### Events -/

/-- R77 and R79: a CLOCK edge with DATA level `d`, against the same cycle without it. Enabled, the accumulator
shifts `d` in; with a LATCH edge in the same cycle the bit belongs to the closing frame; disabled, nothing. -/
def Obligations.ClockEdgeShifts : Prop :=
  ∀ (d : Bool) (s : State), exec (.clkRise d) s = .next (
    if s.sampler.en = false then withoutClock s
    else if (detectEvents s).latchRise = true then
      { withoutClock s with
        store := { (withoutClock s).store with cur := (s.sampler.acc <<< 1) ||| (if d then 1 else 0) } }
    else
      { withoutClock s with
        sampler := { (withoutClock s).sampler with acc := (s.sampler.acc <<< 1) ||| (if d then 1 else 0) } })

/-- R78 and R79: a LATCH edge, against the same cycle without it. Enabled, the frame is captured and the
accumulator starts again at 0; disabled, nothing. -/
def Obligations.LatchEdgeCaptures : Prop :=
  ∀ s : State, exec .latchRise s = .next (
    if s.sampler.en = false then withoutLatch s
    else
      { withoutLatch s with
        sampler := { (withoutLatch s).sampler with acc := 0 }
        store := { cur := withClock (detectEvents s) s.sampler.acc, last := s.store.cur, pending := true } })

/-- Derived from R94, R95 and R96: a GO rising edge sets the GO latch and a RESET falling edge the RESET latch,
in every state, and nothing else changes. -/
def Obligations.TriggerEdgesSetLatches : Prop :=
  ∀ s : State,
    exec .goRise s = .next { withoutGo s with latches := { (withoutGo s).latches with goL := true } } ∧
    exec .resetFall s = .next { withoutReset s with latches := { (withoutReset s).latches with rstL := true } }

/-! ### The FSM, state by state -/

/-- Derived from R105 and R112: in `IDLE` and `DONE` the FSM writes nothing, the indicator shows 0x00, and only an
accepted START leaves the state. -/
def Obligations.IdleAndDoneHold : Prop :=
  ∀ (ev : Events) (c : Option Instr) (s t : State), Cycle ev c s t → s.orch.fsm = .idle ∨ s.orch.fsm = .done →
    led Config.params s = 0x00 ∧ t.out = noPulses s ∧
    (¬ startAccepted c s → t.orch = s.orch) ∧ (startAccepted c s → t.orch.fsm = .awaitGo)

/-- R106, with the blink step of R114: `AWAIT_GO`. `CounterInvariantKept` says that every run keeps the premise on the
counters. -/
def Obligations.AwaitGoTransitions : Prop :=
  ∀ (ev : Events) (c : Option Instr) (s t : State), CounterInvariant Config.params s → Cycle ev c s t →
    s.orch.fsm = .awaitGo →
    (s.latches.goL = true → s.orch.cfgSkipBurn = true →
      t.orch = testingEntered s.orch ∧ t.sampler.en = true ∧ t.out = noPulses s ∧
      t.latches = { goL := ev.goRise, rstL := ev.rstFall }) ∧
    (s.latches.goL = true → s.orch.cfgSkipBurn = false →
      t.orch = { s.orch with fsm := .burnFlash, attempts := 1 } ∧ t.sampler.en = s.sampler.en ∧
      t.out = { noPulses s with flashStart := true } ∧ t.latches = { goL := ev.goRise, rstL := ev.rstFall }) ∧
    (s.latches.goL = false → s.latches.rstL = true → s.orch.cfgRequireGo = false →
      t.orch = { s.orch with fsm := .done, result := .aborted } ∧ t.sampler.en = s.sampler.en ∧
      t.out = noPulses s ∧ t.latches = { goL := ev.goRise, rstL := ev.rstFall }) ∧
    (s.latches.goL = false → ¬ (s.latches.rstL = true ∧ s.orch.cfgRequireGo = false) →
      t.orch = blinked (sample s).tick s.orch ∧ t.sampler.en = s.sampler.en ∧ t.out = noPulses s ∧
      t.latches = { goL := ev.goRise, rstL := ev.rstFall || s.latches.rstL })

/-- R108: `BURN_FLASH`. -/
def Obligations.BurnFlashTransitions : Prop :=
  ∀ (ev : Events) (c : Option Instr) (s t : State), Cycle ev c s t → s.orch.fsm = .burnFlash →
    flashEn s = true ∧ led Config.params s = 0x00 ∧ t.sampler.en = s.sampler.en ∧
    ((sample s).flashDone = true → s.latches.rstL = true →
      t.orch = { s.orch with fsm := .done, result := .aborted } ∧
      t.out = { noPulses s with attemptFail := !(sample s).flashOk } ∧
      t.latches = { goL := ev.goRise || s.latches.goL, rstL := ev.rstFall }) ∧
    ((sample s).flashDone = true → s.latches.rstL = false → (sample s).flashOk = true →
      t.orch = { s.orch with fsm := .awaitGoTest, blinkCnt := 0, phase := false } ∧ t.out = noPulses s ∧
      flashEn t = false ∧ t.latches = { goL := ev.goRise, rstL := ev.rstFall }) ∧
    ((sample s).flashDone = true → s.latches.rstL = false → (sample s).flashOk = false →
      t.out = { noPulses s with attemptFail := true } ∧
      t.latches = { goL := ev.goRise || s.latches.goL, rstL := ev.rstFall } ∧
      (s.orch.attempts.toNat < Config.params.maxFlashAttempts →
        t.orch = { s.orch with fsm := .burnDelay, dlyCnt := 0 }) ∧
      (¬ s.orch.attempts.toNat < Config.params.maxFlashAttempts →
        t.orch = { s.orch with fsm := .done, result := .flashFail } ∧ flashEn t = false)) ∧
    ((sample s).flashDone = false →
      t.orch = s.orch ∧ t.out = noPulses s ∧
      t.latches = { goL := ev.goRise || s.latches.goL, rstL := ev.rstFall || s.latches.rstL })

/-- R109: `BURN_DELAY`, under the premise on the counters that every run keeps. -/
def Obligations.BurnDelayTransitions : Prop :=
  ∀ (ev : Events) (c : Option Instr) (s t : State), CounterInvariant Config.params s → Cycle ev c s t →
    s.orch.fsm = .burnDelay →
    flashEn s = true ∧ led Config.params s = 0x00 ∧ t.sampler.en = s.sampler.en ∧
    (s.latches.rstL = true →
      t.orch = { s.orch with fsm := .done, result := .aborted } ∧ t.out = noPulses s ∧
      t.latches = { goL := ev.goRise || s.latches.goL, rstL := ev.rstFall }) ∧
    (s.latches.rstL = false →
      t.latches = { goL := ev.goRise || s.latches.goL, rstL := ev.rstFall } ∧
      t.orch =
        (if Config.params.retryDelayTicks = 0 ∨
            ((sample s).tick = true ∧ s.orch.dlyCnt.toNat + 1 ≥ Config.params.retryDelayTicks) then
          { s.orch with fsm := .burnFlash, attempts := s.orch.attempts + 1 }
        else if (sample s).tick = true then { s.orch with dlyCnt := s.orch.dlyCnt + 1 }
        else s.orch) ∧
      t.out = { noPulses s with flashStart := decide (t.orch.fsm = .burnFlash) })

/-- R110, with the blink step of R114: `AWAIT_GO_TEST`, under the premise on the counters that every run keeps. -/
def Obligations.AwaitGoTestTransitions : Prop :=
  ∀ (ev : Events) (c : Option Instr) (s t : State), CounterInvariant Config.params s → Cycle ev c s t →
    s.orch.fsm = .awaitGoTest →
    t.out = noPulses s ∧
    (s.latches.goL = true →
      t.orch = testingEntered s.orch ∧ t.sampler.en = true ∧ t.latches = { goL := ev.goRise, rstL := ev.rstFall }) ∧
    (s.latches.goL = false → s.latches.rstL = true → s.orch.cfgRequireGo = false →
      t.orch = { s.orch with fsm := .done, result := .aborted } ∧ t.sampler.en = s.sampler.en ∧
      t.latches = { goL := ev.goRise, rstL := ev.rstFall }) ∧
    (s.latches.goL = false → ¬ (s.latches.rstL = true ∧ s.orch.cfgRequireGo = false) →
      t.orch = blinked (sample s).tick s.orch ∧ t.sampler.en = s.sampler.en ∧
      t.latches = { goL := ev.goRise, rstL := ev.rstFall || s.latches.rstL })

/-- R111, with the blink step of R114 and the watchdog step of R116: `TESTING`, under the premise on the counters that
every run keeps. -/
def Obligations.TestingTransitions : Prop :=
  ∀ (ev : Events) (c : Option Instr) (s t : State), CounterInvariant Config.params s → Cycle ev c s t →
    s.orch.fsm = .testing →
    (s.latches.rstL = true →
      t.orch = { s.orch with fsm := .done, result := .success } ∧ t.sampler.en = false ∧ t.out = noPulses s ∧
      t.latches = { goL := ev.goRise || s.latches.goL, rstL := ev.rstFall } ∧
      t.store.pending = (captures ev s || s.store.pending)) ∧
    (s.latches.rstL = false →
      t.latches = { goL := ev.goRise || s.latches.goL, rstL := ev.rstFall } ∧ t.sampler.en = s.sampler.en ∧
      t.store.pending = captures ev s ∧
      (s.store.pending = true →
        t.orch = blinked (sample s).tick { s.orch with wdCnt := 0 } ∧
        t.out = if s.store.cur ≠ s.store.last then { noPulses s with viewValid := true, viewFrame := s.store.cur }
                else { noPulses s with alive := true }) ∧
      (s.store.pending = false → (sample s).tick = true →
        t.orch = blinked true { s.orch with wdCnt :=
          if s.orch.wdCnt.toNat + 1 ≥ Config.params.watchdogTicks then 0 else s.orch.wdCnt + 1 } ∧
        t.out = { noPulses s with
          silenceWarn := decide (s.orch.wdCnt.toNat + 1 ≥ Config.params.watchdogTicks) }) ∧
      (s.store.pending = false → (sample s).tick = false → t.orch = s.orch ∧ t.out = noPulses s))

/-- R113: the unused state 7 has a next state. -/
def Obligations.UnusedStateGoesToIdle : Prop :=
  ∀ (ev : Events) (c : Option Instr) (s t : State), Cycle ev c s t → s.orch.fsm = .unused →
    sessionActive s = false ∧ led Config.params s = 0x00 ∧ t.out = noPulses s ∧
    (¬ startAccepted c s → t.orch = { s.orch with fsm := .idle }) ∧
    (startAccepted c s → t.orch.fsm = .awaitGo)

/-! ### The FSM as a whole -/

/-- Derived from R102 and R123: in every cycle the FSM takes one of the transitions of the table and no other. -/
def Obligations.SequenceOfStates : Prop :=
  ∀ (ev : Events) (c : Option Instr) (s t : State), Cycle ev c s t →
    (startAccepted c s → t.orch.fsm = .awaitGo) ∧
    (¬ startAccepted c s →
      t.orch.fsm ∈
        (match s.orch.fsm with
         | .idle => [FsmState.idle]
         | .awaitGo => [.awaitGo, .burnFlash, .testing, .done]
         | .burnFlash => [.burnFlash, .burnDelay, .awaitGoTest, .done]
         | .burnDelay => [.burnDelay, .burnFlash, .done]
         | .awaitGoTest => [.awaitGoTest, .testing, .done]
         | .testing => [.testing, .done]
         | .done => [.done]
         | .unused => [.idle]))

/-- R29: an accepted START loads the two configuration bits from its arguments, nothing else writes them, and both
reset to 0. -/
def Obligations.ConfigurationLoadedByStart : Prop :=
  (∀ (ev : Events) (c : Option Instr) (s t : State), Cycle ev c s t →
    (∀ skip go, accepted c s (.start skip go) → t.orch.cfgSkipBurn = skip ∧ t.orch.cfgRequireGo = go) ∧
    (¬ startAccepted c s → t.orch.cfgSkipBurn = s.orch.cfgSkipBurn ∧ t.orch.cfgRequireGo = s.orch.cfgRequireGo)) ∧
  State.reset.orch.cfgSkipBurn = false ∧ State.reset.orch.cfgRequireGo = false

/-- R33, with the conditions of R104, R108, R111 and R116: when each pulse register is 1 after a cycle, which is 0
in all other cycles, and that `view_frame` takes the presented frame with `view_valid` and keeps its value else. -/
def Obligations.PulsesAndViewFrame : Prop :=
  (∀ (ev : Events) (c : Option Instr) (s t : State), Cycle ev c s t →
    (t.out.flashStart = true ↔ s.orch.fsm ≠ .burnFlash ∧ t.orch.fsm = .burnFlash) ∧
    (t.out.attemptFail = true ↔
      s.orch.fsm = .burnFlash ∧ (sample s).flashDone = true ∧ (sample s).flashOk = false) ∧
    (t.out.viewValid = true ↔ s.orch.fsm = .testing ∧ s.latches.rstL = false ∧ s.store.pending = true ∧
      s.store.cur ≠ s.store.last) ∧
    (t.out.alive = true ↔ s.orch.fsm = .testing ∧ s.latches.rstL = false ∧ s.store.pending = true ∧
      s.store.cur = s.store.last) ∧
    (CounterInvariant Config.params s →
      (t.out.silenceWarn = true ↔ s.orch.fsm = .testing ∧ s.latches.rstL = false ∧ s.store.pending = false ∧
        (sample s).tick = true ∧ s.orch.wdCnt.toNat + 1 ≥ Config.params.watchdogTicks)) ∧
    t.out.viewFrame = (if t.out.viewValid = true then s.store.cur else s.out.viewFrame)) ∧
  State.reset.out = { flashStart := false, viewValid := false, alive := false, silenceWarn := false,
                      attemptFail := false, viewFrame := 0 }

/-- R119: every exit from the BURN states releases the flasher, `flash_en` falling, and there are these exits only:
success, retry exhaustion and abort. -/
def Obligations.BurnExitsReleaseFlasher : Prop :=
  ∀ (ev : Events) (c : Option Instr) (s t : State), Cycle ev c s t →
    s.orch.fsm = .burnFlash ∨ s.orch.fsm = .burnDelay → t.orch.fsm ≠ .burnFlash → t.orch.fsm ≠ .burnDelay →
    flashEn s = true ∧ flashEn t = false ∧
    ((t.orch.fsm = .awaitGoTest ∧ s.orch.fsm = .burnFlash ∧ (sample s).flashDone = true ∧
        (sample s).flashOk = true) ∨
     (t.orch.fsm = .done ∧ t.orch.result = .flashFail ∧ s.orch.fsm = .burnFlash ∧ (sample s).flashDone = true ∧
        (sample s).flashOk = false ∧ Config.params.maxFlashAttempts ≤ s.orch.attempts.toNat) ∨
     (t.orch.fsm = .done ∧ t.orch.result = .aborted ∧ s.latches.rstL = true))

/-- Derived from R120, R104 and R37: the sampler is enabled by the FSM only from a state with neither enable set, and `pin_sel` leaves 01 only
for 00. -/
def Obligations.SamplerEnabledAfterRelease : Prop :=
  (∀ (ev : Events) (c : Option Instr) (s t : State), SessionInvariant s → Cycle ev c s t →
    s.orch.fsm ≠ .testing → t.orch.fsm = .testing →
    (s.orch.fsm = .awaitGo ∨ s.orch.fsm = .awaitGoTest) ∧ flashEn s = false ∧ s.sampler.en = false) ∧
  (∀ (ev : Events) (c : Option Instr) (s t : State), SessionInvariant s → Cycle ev c s t →
    pinSel s = 0b01 → pinSel t = 0b01 ∨ pinSel t = 0b00)

/-- R37: the flasher and the sampler never own the pins together, in every state a run from reset reaches, whatever
the environment supplies; `pin_sel` is never 11 (R71). -/
def Obligations.FlasherAndSamplerExclusive : Prop :=
  ∀ s : State, Reachable s → (flashEn s && s.sampler.en) = false ∧ pinSel s ≠ 0b11

/-- Derived from R27, R28, R33, R36, R37, R66, R67, R69 and R107: every step, and every run of one instruction, keeps
the session invariant. -/
def Obligations.SessionInvariantKept : Prop :=
  (∀ s t : State, SessionInvariant s → step s = .next t → SessionInvariant t) ∧
  (∀ (i : Instr) (s t : State), SessionInvariant s → exec i s = .next t → SessionInvariant t)

/-- Derived from R109, R114, R116, R121 and R28: every step, and every run of one instruction, keeps each counter
below its limit. -/
def Obligations.CounterInvariantKept : Prop :=
  (∀ s t : State, CounterInvariant Config.params s → step s = .next t → CounterInvariant Config.params t) ∧
  (∀ (i : Instr) (s t : State), CounterInvariant Config.params s → exec i s = .next t →
    CounterInvariant Config.params t)

/-- The two invariants hold in the reset state. -/
def Obligations.ResetMeetsInvariants : Prop :=
  SessionInvariant State.reset ∧ CounterInvariant Config.params State.reset

/-- R107: with `cfg_skip_burn == 1`, GO goes straight to `TESTING`, and no BURN state, nor `AWAIT_GO_TEST`, is ever
entered, so that `flash_en` stays 0. -/
def Obligations.SkipBurnNeverFlashes : Prop :=
  (∀ (ev : Events) (c : Option Instr) (s t : State), Cycle ev c s t → s.orch.fsm = .awaitGo →
    s.orch.cfgSkipBurn = true → s.latches.goL = true → t.orch.fsm = .testing) ∧
  (∀ s : State, Reachable s → s.orch.cfgSkipBurn = true →
    s.orch.fsm ≠ .burnFlash ∧ s.orch.fsm ≠ .burnDelay ∧ s.orch.fsm ≠ .awaitGoTest ∧ flashEn s = false)

/-- Derived from R121, R108 and R109: a session starts at most `MAX_FLASH_ATTEMPTS` attempts, whatever its value,
and `attempts` counts them; a failure of the last one ends the session in `DONE` with `FLASH_FAIL`. With the default
of 2 these are two failures. -/
def Obligations.AttemptsPerSessionBounded : Prop :=
  (∀ (n : Nat) (s : State), SessionRun n s → n ≤ Config.params.maxFlashAttempts ∧ s.orch.attempts.toNat = n) ∧
  (∀ s t : State, s.orch.fsm = .burnFlash → Config.params.maxFlashAttempts ≤ s.orch.attempts.toNat →
    (sample s).rstN = true → (sample s).flashDone = true → (sample s).flashOk = false → s.latches.rstL = false →
    step s = .next t → t.orch.fsm = .done ∧ t.orch.result = .flashFail ∧ t.out.attemptFail = true)

/-- R122: without `flash_done` the FSM stays in `BURN_FLASH`, for as many cycles as one likes, a latched RESET
notwithstanding. -/
def Obligations.NoTimeoutOnAttempt : Prop :=
  ∀ (n : Nat) (s : State), s.orch.fsm = .burnFlash → n ≤ s.env.stim.length →
    (∀ i ∈ s.env.stim.take n, i.rstN = true ∧ i.flashDone = false) →
    ∃ t, Sys2Proof.core.run n s = .next t ∧ t.orch.fsm = .burnFlash ∧
      (s.latches.rstL = true → t.latches.rstL = true)

/-- Derived from R117: the watchdog's counter reaches nothing but itself and `silence_warn`. -/
def Obligations.WatchdogInformsOnly : Prop :=
  ∀ (s t : State) (w : Word), step s = .next t →
    ∃ (w' : Word) (b : Bool), step { s with orch := { s.orch with wdCnt := w } } =
      .next { t with orch := { t.orch with wdCnt := w' }, out := { t.out with silenceWarn := b } }

/-- Derived from R118 and R137: the flasher's answer is read only in `BURN_FLASH`, `flash_ok` only with `flash_done`,
and `tick` only in the states that use a timer. -/
def Obligations.InputsReadOnlyWhereUsed : Prop :=
  (∀ (s : State) (i : Input) (done ok : Bool), s.orch.fsm ≠ .burnFlash →
    step (withSample s i) = step (withSample s { i with flashDone := done, flashOk := ok })) ∧
  (∀ (s : State) (i : Input) (ok : Bool), i.flashDone = false →
    step (withSample s i) = step (withSample s { i with flashOk := ok })) ∧
  (∀ (s : State) (i : Input) (b : Bool),
    s.orch.fsm = .idle ∨ s.orch.fsm = .burnFlash ∨ s.orch.fsm = .done ∨ s.orch.fsm = .unused →
    step (withSample s i) = step (withSample s { i with tick := b }))

/-! ### Runs -/

/-- R38: in a run without reset that starts with `pending == 0`, `pending` is 1 exactly when a capture has happened
and no read-and-clear came in a later cycle (one in the capture's own cycle is overridden). -/
def Obligations.PendingTellsOfNewFrame : Prop :=
  ∀ (run : Nat → State) (n : Nat),
    (run 0).store.pending = false →
    (∀ k, k < n → (sample (run k)).rstN = true ∧ step (run k) = .next (run (k + 1))) →
    ((run n).store.pending = true ↔
      ∃ k, k < n ∧ captures (detectEvents (run k)) (run k) = true ∧
        ∀ j, k < j → j < n → captures (detectEvents (run j)) (run j) = true ∨ ¬ PendClr (portCommand (run j)) (run j))

/-- R50, and R77's wrap: after the bits of the CLOCK edges since a frame began, the accumulator holds them most
significant bit first, modulo 2^32, and the LATCH edge that follows captures that frame. With up to 32 bits the
frame is the sum itself and has no bit at or above their number. -/
def Obligations.FrameIsMsbFirst : Prop :=
  ∀ (bits : List Bool) (s t : State), Clocked bits s t → s.sampler.acc = 0 →
    t.sampler.acc.toNat = msbFirst bits % 2 ^ 32 ∧
    (bits.length ≤ 32 → t.sampler.acc.toNat = msbFirst bits ∧ t.sampler.acc.toNat < 2 ^ bits.length) ∧
    (∀ (ev : Events) (c : Option Instr) (u : State), Cycle ev c t u → t.sampler.en = true → ev.latchRise = true →
      ev.clkRise = false →
      u.store.cur = t.sampler.acc ∧ u.store.last = t.store.cur ∧ u.store.pending = true ∧ u.sampler.acc = 0)

/-- Derived from R145, R15 and R59: a pin edge sampled in cycle c is the event of cycle c+2, with the DATA level
sampled with it, and a trigger edge has set its latch in the state of cycle c+3. -/
def Obligations.PinEdgeLatency : Prop :=
  ∀ s0 s1 s2 s3 : State, s0.sync.arm ≠ 0 →
    (sample s0).rstN = true → (sample s1).rstN = true → (sample s2).rstN = true →
    step s0 = .next s1 → step s1 = .next s2 → step s2 = .next s3 →
    (detectEvents s2).clkRise = ((sample s0).busClock && !s0.sync.clkS0) ∧
    (detectEvents s2).dataBit = (sample s0).busData ∧
    (detectEvents s2).latchRise = ((sample s0).busLatch && !s0.sync.latS0) ∧
    (detectEvents s2).goRise = ((sample s0).goIn && !s0.sync.goS0) ∧
    (detectEvents s2).rstFall = (!(sample s0).resetIn && s0.sync.rstS0) ∧
    ((sample s0).goIn = true → s0.sync.goS0 = false → s3.latches.goL = true) ∧
    ((sample s0).resetIn = false → s0.sync.rstS0 = true → s3.latches.rstL = true)

/-- Derived from R144: no event in the three cycles after a reset cycle, and in the fourth only an edge between the pins sampled
in the first and the second of them. -/
def Obligations.WarmUpDetectsNothing : Prop :=
  ∀ s s0 s1 s2 s3 : State, (sample s).rstN = false →
    (sample s0).rstN = true → (sample s1).rstN = true → (sample s2).rstN = true →
    step s = .next s0 → step s0 = .next s1 → step s1 = .next s2 → step s2 = .next s3 →
    decodeEvents (eventsToVector (detectEvents s0)) = [] ∧
    decodeEvents (eventsToVector (detectEvents s1)) = [] ∧
    decodeEvents (eventsToVector (detectEvents s2)) = [] ∧
    (detectEvents s3).clkRise = ((sample s1).busClock && !(sample s0).busClock) ∧
    (detectEvents s3).latchRise = ((sample s1).busLatch && !(sample s0).busLatch) ∧
    (detectEvents s3).goRise = ((sample s1).goIn && !(sample s0).goIn) ∧
    (detectEvents s3).rstFall = (!(sample s1).resetIn && (sample s0).resetIn)

/-- Derived from R74, R59 and R15, for the MODEL'S OWN realisation: where R74 leaves a pin's level open, away from the
edge of an event, `realise` and `preload` choose it (DESIGN CHOICE, assumption 14), and that `data_bit` is 0 in a line
without a CLOCK edge rests on that choice alone. The pin-level realisation of a well-formed event-level program
without a reset line shows, in each cycle, exactly the events of that cycle's line. Nothing is said of a program with
a reset line, nor of the word on the command port. -/
def Obligations.RealisedProgramShowsItsEvents : Prop :=
  ∀ (prog : List EventLine) (s t : State) (n : Nat) (l : EventLine), EventLine.wellFormedProgram prog = true →
    (∀ x ∈ prog, x.rstN = true) → prog[n]? = some l → Sys2Proof.core.run n (preload prog s) = .next t →
    detectEvents t = lineEvents l ∧ (sample t).tick = l.tick ∧
    (sample t).cmdValid = l.cmd.isSome ∧ (sample t).flashDone = l.flashDone ∧ (sample t).flashOk = l.flashOk
end

