-- ==== Sys2Proof/Laws/Config.lean ====
section
/-! SUPPORT. The one thing known of the parameters: they are legal (R6). -/

namespace Sys2Proof.Laws

theorem testOnly_legal : Params.testOnly.Legal := by decide

/-- The parameters are in their legal ranges, whatever the free value is. -/
theorem params_legal : Config.params.Legal := by
  unfold Config.params
  split
  · assumption
  · exact testOnly_legal

theorem blinkTicks_pos : 0 < Config.params.blinkTicks := params_legal.2.1.1

theorem watchdogTicks_pos : 0 < Config.params.watchdogTicks := params_legal.2.2.1.1

theorem maxFlashAttempts_pos : 0 < Config.params.maxFlashAttempts := params_legal.2.2.2.2.1.1

theorem maxFlashAttempts_le : Config.params.maxFlashAttempts ≤ 3 := params_legal.2.2.2.2.1.2

end Sys2Proof.Laws
end

