-- ==== Sys2Proof/Laws/State.lean ====
section
/-! SUPPORT. One lemma per field of each update of the state, so that no proof unfolds a record update. -/

namespace Sys2Proof.Laws

open Sys2Proof.Machine

/-! ### The sample -/

@[simp] theorem sample_cons (s : State) (i : Input) (l : List Input) (h : s.env.stim = i :: l) : sample s = i := by
  simp [sample, h]

@[simp] theorem sample_withSample (s : State) (i : Input) : sample (withSample s i) = i := rfl

@[simp] theorem withSample_sync (s : State) (i : Input) : (withSample s i).sync = s.sync := rfl
@[simp] theorem withSample_sampler (s : State) (i : Input) : (withSample s i).sampler = s.sampler := rfl
@[simp] theorem withSample_store (s : State) (i : Input) : (withSample s i).store = s.store := rfl
@[simp] theorem withSample_latches (s : State) (i : Input) : (withSample s i).latches = s.latches := rfl
@[simp] theorem withSample_orch (s : State) (i : Input) : (withSample s i).orch = s.orch := rfl
@[simp] theorem withSample_out (s : State) (i : Input) : (withSample s i).out = s.out := rfl
@[simp] theorem withSample_rsp (s : State) (i : Input) : (withSample s i).rsp = s.rsp := rfl

@[simp] theorem nextEnv_cons (i : Input) (l : List Input) (n : Nat) :
    nextEnv { stim := i :: l, draws := n } = { stim := l, draws := n } := rfl
@[simp] theorem nextEnv_nil (n : Nat) :
    nextEnv { stim := [], draws := n } = { stim := [], draws := n + 1 } := rfl

/-! ### The cycle, part by part -/

@[simp] theorem cycle_sync (p : Params) (ev : Events) (c : CommandEffect) (s : State) :
    (cycle p ev c s).sync = nextSync (sample s) s.sync := rfl
@[simp] theorem cycle_en (p : Params) (ev : Events) (c : CommandEffect) (s : State) :
    (cycle p ev c s).sampler.en = nextEn c.enWrite (fsmEffect p (sample s) s).enWrite s.sampler.en := rfl
@[simp] theorem cycle_acc (p : Params) (ev : Events) (c : CommandEffect) (s : State) :
    (cycle p ev c s).sampler.acc = nextAcc ev s.sampler (cycle p ev c s).sampler.en := rfl
@[simp] theorem cycle_store (p : Params) (ev : Events) (c : CommandEffect) (s : State) :
    (cycle p ev c s).store =
      nextStore (captured ev s.sampler) (c.pendClr || (fsmEffect p (sample s) s).pendClr) s.store := rfl
@[simp] theorem cycle_latches (p : Params) (ev : Events) (c : CommandEffect) (s : State) :
    (cycle p ev c s).latches =
      nextLatches ev (c.goClr || (fsmEffect p (sample s) s).goClr) (c.rstClr || (fsmEffect p (sample s) s).rstClr)
        s.latches := rfl
@[simp] theorem cycle_orch (p : Params) (ev : Events) (c : CommandEffect) (s : State) :
    (cycle p ev c s).orch = c.orchWrite.getD (fsmEffect p (sample s) s).orch := rfl
@[simp] theorem cycle_out (p : Params) (ev : Events) (c : CommandEffect) (s : State) :
    (cycle p ev c s).out = (fsmEffect p (sample s) s).out := rfl
@[simp] theorem cycle_rsp (p : Params) (ev : Events) (c : CommandEffect) (s : State) :
    (cycle p ev c s).rsp = c.rsp := rfl
@[simp] theorem cycle_env (p : Params) (ev : Events) (c : CommandEffect) (s : State) :
    (cycle p ev c s).env = nextEnv s.env := rfl

/-! ### The reset cycle -/

@[simp] theorem resetCycle_sync (s : State) : (resetCycle s).sync = State.reset.sync := rfl
@[simp] theorem resetCycle_sampler (s : State) : (resetCycle s).sampler = State.reset.sampler := rfl
@[simp] theorem resetCycle_store (s : State) : (resetCycle s).store = State.reset.store := rfl
@[simp] theorem resetCycle_latches (s : State) : (resetCycle s).latches = State.reset.latches := rfl
@[simp] theorem resetCycle_orch (s : State) : (resetCycle s).orch = State.reset.orch := rfl
@[simp] theorem resetCycle_out (s : State) : (resetCycle s).out = State.reset.out := rfl
@[simp] theorem resetCycle_rsp (s : State) : (resetCycle s).rsp = State.reset.rsp := rfl
@[simp] theorem resetCycle_env (s : State) : (resetCycle s).env = nextEnv s.env := rfl

/-! ### What a command port contributes -/

@[simp] theorem respondOnly_rsp (r : Response) : (respondOnly r).rsp = r := rfl
@[simp] theorem respondOnly_pendClr (r : Response) : (respondOnly r).pendClr = false := rfl
@[simp] theorem respondOnly_goClr (r : Response) : (respondOnly r).goClr = false := rfl
@[simp] theorem respondOnly_rstClr (r : Response) : (respondOnly r).rstClr = false := rfl
@[simp] theorem respondOnly_enWrite (r : Response) : (respondOnly r).enWrite = none := rfl
@[simp] theorem respondOnly_orchWrite (r : Response) : (respondOnly r).orchWrite = none := rfl

/-! ### The FSM's registers -/

@[simp] theorem fsmHold_orch (s : State) : (fsmHold s).orch = s.orch := rfl
@[simp] theorem fsmHold_out (s : State) : (fsmHold s).out = pulsesOff s.out := rfl
@[simp] theorem fsmHold_enWrite (s : State) : (fsmHold s).enWrite = none := rfl
@[simp] theorem fsmHold_pendClr (s : State) : (fsmHold s).pendClr = false := rfl
@[simp] theorem fsmHold_goClr (s : State) : (fsmHold s).goClr = false := rfl
@[simp] theorem fsmHold_rstClr (s : State) : (fsmHold s).rstClr = false := rfl

@[simp] theorem enterTesting_orch (e : FsmEffect) :
    (enterTesting e).orch = { e.orch with fsm := .testing, wdCnt := 0, blinkCnt := 0, phase := false } := rfl
@[simp] theorem enterTesting_out (e : FsmEffect) : (enterTesting e).out = e.out := rfl
@[simp] theorem enterTesting_enWrite (e : FsmEffect) : (enterTesting e).enWrite = some true := rfl
@[simp] theorem enterTesting_pendClr (e : FsmEffect) : (enterTesting e).pendClr = e.pendClr := rfl
@[simp] theorem enterTesting_goClr (e : FsmEffect) : (enterTesting e).goClr = e.goClr := rfl
@[simp] theorem enterTesting_rstClr (e : FsmEffect) : (enterTesting e).rstClr = e.rstClr := rfl

@[simp] theorem enterDone_orch (r : SessionResult) (e : FsmEffect) :
    (enterDone r e).orch = { e.orch with fsm := .done, result := r } := rfl
@[simp] theorem enterDone_out (r : SessionResult) (e : FsmEffect) : (enterDone r e).out = e.out := rfl
@[simp] theorem enterDone_enWrite (r : SessionResult) (e : FsmEffect) : (enterDone r e).enWrite = e.enWrite := rfl
@[simp] theorem enterDone_pendClr (r : SessionResult) (e : FsmEffect) : (enterDone r e).pendClr = e.pendClr := rfl
@[simp] theorem enterDone_goClr (r : SessionResult) (e : FsmEffect) : (enterDone r e).goClr = e.goClr := rfl
@[simp] theorem enterDone_rstClr (r : SessionResult) (e : FsmEffect) : (enterDone r e).rstClr = e.rstClr := rfl

@[simp] theorem enterBurnFlash_orch (e : FsmEffect) : (enterBurnFlash e).orch = { e.orch with fsm := .burnFlash } := rfl
@[simp] theorem enterBurnFlash_out (e : FsmEffect) : (enterBurnFlash e).out = { e.out with flashStart := true } := rfl
@[simp] theorem enterBurnFlash_enWrite (e : FsmEffect) : (enterBurnFlash e).enWrite = e.enWrite := rfl
@[simp] theorem enterBurnFlash_pendClr (e : FsmEffect) : (enterBurnFlash e).pendClr = e.pendClr := rfl
@[simp] theorem enterBurnFlash_goClr (e : FsmEffect) : (enterBurnFlash e).goClr = e.goClr := rfl
@[simp] theorem enterBurnFlash_rstClr (e : FsmEffect) : (enterBurnFlash e).rstClr = e.rstClr := rfl

@[simp] theorem enterBurnDelay_orch (e : FsmEffect) :
    (enterBurnDelay e).orch = { e.orch with fsm := .burnDelay, dlyCnt := 0 } := rfl
@[simp] theorem enterBurnDelay_out (e : FsmEffect) : (enterBurnDelay e).out = e.out := rfl
@[simp] theorem enterBurnDelay_enWrite (e : FsmEffect) : (enterBurnDelay e).enWrite = e.enWrite := rfl
@[simp] theorem enterBurnDelay_pendClr (e : FsmEffect) : (enterBurnDelay e).pendClr = e.pendClr := rfl
@[simp] theorem enterBurnDelay_goClr (e : FsmEffect) : (enterBurnDelay e).goClr = e.goClr := rfl
@[simp] theorem enterBurnDelay_rstClr (e : FsmEffect) : (enterBurnDelay e).rstClr = e.rstClr := rfl

@[simp] theorem enterAwaitGoTest_orch (e : FsmEffect) :
    (enterAwaitGoTest e).orch = { e.orch with fsm := .awaitGoTest, blinkCnt := 0, phase := false } := rfl
@[simp] theorem enterAwaitGoTest_out (e : FsmEffect) : (enterAwaitGoTest e).out = e.out := rfl
@[simp] theorem enterAwaitGoTest_enWrite (e : FsmEffect) : (enterAwaitGoTest e).enWrite = e.enWrite := rfl
@[simp] theorem enterAwaitGoTest_pendClr (e : FsmEffect) : (enterAwaitGoTest e).pendClr = e.pendClr := rfl
@[simp] theorem enterAwaitGoTest_goClr (e : FsmEffect) : (enterAwaitGoTest e).goClr = true := rfl
@[simp] theorem enterAwaitGoTest_rstClr (e : FsmEffect) : (enterAwaitGoTest e).rstClr = e.rstClr := rfl

end Sys2Proof.Laws
end

