-- ==== Sys2Proof/Laws/Ops.lean ====
section
/-! SUPPORT. For each shared operation, once, everything it can do. -/

namespace Sys2Proof.Laws

open Sys2Proof.Machine Sys2Proof.Safety

/-! ### Flags -/

theorem mergeFlag_eq_true (set clr old : Bool) :
    mergeFlag set clr old = true ↔ set = true ∨ (old = true ∧ clr = false) := by
  cases set <;> cases clr <;> cases old <;> decide

theorem mergeFlag_no_clear (set old : Bool) : mergeFlag set false old = (set || old) := by
  cases set <;> cases old <;> rfl

theorem mergeFlag_clear (set old : Bool) : mergeFlag set true old = set := by
  cases set <;> rfl

theorem zextFlag_eq (b : Bool) : zextFlag b = if b = true then 1 else 0 := by
  cases b <;> decide

theorem changed_eq_true (st : PacketStore) : changed st = true ↔ st.cur ≠ st.last := by
  simp [changed]

theorem tickReaches_eq_true (cnt : Word) (limit : Nat) : tickReaches cnt limit = true ↔ limit ≤ cnt.toNat + 1 := by
  simp [tickReaches]

theorem flashEn_eq_true (s : State) : flashEn s = true ↔ s.orch.fsm = .burnFlash ∨ s.orch.fsm = .burnDelay := by
  cases h : s.orch.fsm <;> simp [flashEn, h]

theorem sessionActive_eq_true (s : State) :
    sessionActive s = true ↔ s.orch.fsm = .awaitGo ∨ s.orch.fsm = .burnFlash ∨ s.orch.fsm = .burnDelay ∨
      s.orch.fsm = .awaitGoTest ∨ s.orch.fsm = .testing := by
  cases h : s.orch.fsm <;> simp [sessionActive, h]

theorem sessionActive_eq_false (s : State) :
    sessionActive s = false ↔ s.orch.fsm = .idle ∨ s.orch.fsm = .done ∨ s.orch.fsm = .unused := by
  cases h : s.orch.fsm <;> simp [sessionActive, h]

/-! ### Sampler and capture -/

theorem clocked_eq (ev : Events) (acc : Word) : clocked ev acc = withClock ev acc := by
  simp [clocked, withClock, shiftIn, zextFlag_eq]

theorem captured_isSome (ev : Events) (s : State) : (captured ev s.sampler).isSome = captures ev s := by
  unfold captured captures
  cases s.sampler.en <;> cases ev.latchRise <;> rfl

theorem captured_eq_none (ev : Events) (s : State) (h : captures ev s = false) : captured ev s.sampler = none := by
  have hs := captured_isSome ev s
  rw [h] at hs
  cases hc : captured ev s.sampler with
  | none => rfl
  | some f => simp [hc] at hs

theorem captured_eq_some (ev : Events) (s : State) (h : captures ev s = true) :
    captured ev s.sampler = some (withClock ev s.sampler.acc) := by
  unfold captures at h
  simp [captured, h, clocked_eq]

/-! ### What a command contributes -/

/-- `ifOwner` either performs, outside a session, or raises `ERR_BUSY`, inside one. -/
theorem ifOwner_cases (s : State) (e : CommandEffect) :
    (sessionActive s = false ∧ ifOwner s e = e) ∨ (sessionActive s = true ∧ ifOwner s e = raiseCmdError .busy) := by
  unfold ifOwner
  cases sessionActive s <;> simp

/-- All that a command can contribute besides its response: nothing, or, outside a session, what its own rule
says. -/
theorem commandEffect_cases (p : Params) (i : Instr) (s : State) :
    (∃ r, commandEffect p i s = respondOnly r) ∨
    (sessionActive s = false ∧
      ((i = .newpkt ∧ commandEffect p i s = { reply (zextFlag s.store.pending) with pendClr := true }) ∨
       (i = .clrgo ∧ commandEffect p i s = { reply 0 with goClr := true }) ∨
       (i = .clrrst ∧ commandEffect p i s = { reply 0 with rstClr := true }) ∨
       (i = .sen ∧ commandEffect p i s = { reply 0 with enWrite := some true }) ∨
       (i = .sdis ∧ commandEffect p i s = { reply 0 with enWrite := some false }) ∨
       (∃ skip go, i = .start skip go ∧ commandEffect p i s = { reply 0 with
          goClr := true, rstClr := true, enWrite := some false, orchWrite := some (startSession skip go s.orch) }))) := by
  have owner (e : CommandEffect) := ifOwner_cases s e
  cases i with
  | newpkt =>
    rcases owner { reply (zextFlag s.store.pending) with pendClr := true } with ⟨h, he⟩ | ⟨_, he⟩
    · exact .inr ⟨h, .inl ⟨rfl, he⟩⟩
    · exact .inl ⟨_, he⟩
  | clrgo =>
    rcases owner { reply 0 with goClr := true } with ⟨h, he⟩ | ⟨_, he⟩
    · exact .inr ⟨h, .inr (.inl ⟨rfl, he⟩)⟩
    · exact .inl ⟨_, he⟩
  | clrrst =>
    rcases owner { reply 0 with rstClr := true } with ⟨h, he⟩ | ⟨_, he⟩
    · exact .inr ⟨h, .inr (.inr (.inl ⟨rfl, he⟩))⟩
    · exact .inl ⟨_, he⟩
  | sen =>
    rcases owner { reply 0 with enWrite := some true } with ⟨h, he⟩ | ⟨_, he⟩
    · exact .inr ⟨h, .inr (.inr (.inr (.inl ⟨rfl, he⟩)))⟩
    · exact .inl ⟨_, he⟩
  | sdis =>
    rcases owner { reply 0 with enWrite := some false } with ⟨h, he⟩ | ⟨_, he⟩
    · exact .inr ⟨h, .inr (.inr (.inr (.inr (.inl ⟨rfl, he⟩))))⟩
    · exact .inl ⟨_, he⟩
  | start skip go =>
    rcases owner { reply 0 with
        goClr := true, rstClr := true, enWrite := some false, orchWrite := some (startSession skip go s.orch) }
      with ⟨h, he⟩ | ⟨_, he⟩
    · exact .inr ⟨h, .inr (.inr (.inr (.inr (.inr ⟨skip, go, rfl, he⟩))))⟩
    · exact .inl ⟨_, he⟩
  | nop => exact .inl ⟨_, rfl⟩
  | rdcap => exact .inl ⟨_, rfl⟩
  | rdlast => exact .inl ⟨_, rfl⟩
  | chg => exact .inl ⟨_, rfl⟩
  | rdgo => exact .inl ⟨_, rfl⟩
  | rdrst => exact .inl ⟨_, rfl⟩
  | stat => exact .inl ⟨_, rfl⟩
  | rdacc => exact .inl ⟨_, rfl⟩
  | clkRise d => exact .inl ⟨_, rfl⟩
  | latchRise => exact .inl ⟨_, rfl⟩
  | goRise => exact .inl ⟨_, rfl⟩
  | resetFall => exact .inl ⟨_, rfl⟩

/-- The response of a command that is performed or refused with `ERR_BUSY`, by the command's own rule. -/
theorem commandEffect_rsp (i : Instr) (s : State) (h : i.isCommand = true) :
    (commandEffect Config.params i s).rsp =
      if i.mutating = true ∧ sessionActive s = true then { valid := true, data := 0, err := .busy }
      else { valid := true, data := responseValue s i, err := .ok } := by
  cases ha : sessionActive s <;> cases i <;>
    simp_all [commandEffect, nopEffect, newpktEffect, rdcapEffect, rdlastEffect, chgEffect, rdgoEffect, clrgoEffect,
      rdrstEffect, clrrstEffect, senEffect, sdisEffect, statEffect, startEffect, rdaccEffect, ifOwner,
      raiseCmdError, reply, responseValue, Instr.mutating, Instr.isCommand, zextFlag_eq, changed]

/-- The decoder gives commands only. -/
theorem commandOf_isCommand (w : CommandWord) (i : Instr) (h : commandOf w = some i) : i.isCommand = true := by
  have all : ∀ w : CommandWord, (commandOf w).all Instr.isCommand = true := by decide
  simpa [h] using all w

/-! ### The FSM -/

/-- Outside a session the FSM writes its pulses 0, takes 7 to IDLE, and does nothing else (R105, R112, R113). -/
theorem fsmEffect_inactive (p : Params) (i : Input) (s : State) (h : sessionActive s = false) :
    fsmEffect p i s =
      { fsmHold s with orch := { s.orch with fsm := if s.orch.fsm = .unused then .idle else s.orch.fsm } } := by
  rcases s with ⟨sy, sa, st, la, o, ou, rs, en⟩
  rcases o with ⟨f, r, a, c1, c2, b, ph, w, d⟩
  cases f <;> simp_all [sessionActive, fsmEffect, fsmHold]

/-! ### One instruction, one cycle -/

/-- What the command port contributes to the cycle in which exec runs `i`. -/
def effectDuring (i : Instr) (s : State) : CommandEffect :=
  if i.isCommand then commandEffect Config.params i s else portEffect Config.params s

/-- Everything exec can do: one cycle, with the instruction's events and its command. -/
theorem exec_eq_cycle (i : Instr) (s : State) :
    exec i s = .next (cycle Config.params (eventsDuring i s) (effectDuring i s) s) := by
  cases i <;> rfl

theorem portEffect_eq (s : State) :
    portEffect Config.params s =
      match portCommand s with
      | some i => commandEffect Config.params i s
      | none => if (sample s).cmdValid then raiseCmdError .reserved else noCommand := by
  unfold portEffect portCommand
  cases (sample s).cmdValid
  · rfl
  · cases commandOf (sample s).cmd <;> rfl

theorem portCommand_isCommand (s : State) (i : Instr) (h : portCommand s = some i) : i.isCommand = true := by
  unfold portCommand at h
  split at h
  · exact commandOf_isCommand _ _ h
  · cases h

/-- The contribution of the port in terms of the command of the cycle: the command's own, or a response alone. -/
theorem effectDuring_cases (i : Instr) (s : State) :
    (∃ j, commandDuring i s = some j ∧ j.isCommand = true ∧ effectDuring i s = commandEffect Config.params j s) ∨
    (commandDuring i s = none ∧ ∃ r, effectDuring i s = respondOnly r) := by
  unfold commandDuring effectDuring
  cases h : i.isCommand with
  | true => exact .inl ⟨i, by simp, h, by simp⟩
  | false =>
    simp only [portEffect_eq]
    cases hp : portCommand s with
    | some j => exact .inl ⟨j, by simp, portCommand_isCommand s j hp, by simp⟩
    | none =>
      refine .inr ⟨by simp, ?_⟩
      cases (sample s).cmdValid
      · exact ⟨_, rfl⟩
      · exact ⟨_, rfl⟩

end Sys2Proof.Laws
end

