-- ==== Sys2Proof/Laws/Step.lean ====
section
/-! SUPPORT. Once, everything a step and a cycle can do. -/

namespace Sys2Proof.Laws

open Sys2Proof.Machine Sys2Proof.Safety

/-- The cycle of exec, in the form the step uses for an event. -/
theorem exec_event (i : Instr) (s : State) (h : i.isCommand = false) :
    exec i s = .next (eventCycle (eventsDuring i s) s) := by
  rw [exec_eq_cycle]
  simp [effectDuring, h, eventCycle]

theorem eventsDuring_command (i : Instr) (s : State) (h : i.isCommand = true) :
    eventsDuring i s = detectEvents s := by
  cases i <;> first | rfl | cases h

/-- R60: the events of a vector are those whose signals are 1. -/
theorem mem_decodeEvents (e : Events) (i : Instr) :
    i ∈ decodeEvents (eventsToVector e) ↔
      (e.clkRise = true ∧ i = .clkRise e.dataBit) ∨ (e.latchRise = true ∧ i = .latchRise) ∨
      (e.goRise = true ∧ i = .goRise) ∨ (e.rstFall = true ∧ i = .resetFall) := by
  have bits : ∀ a b c d x : Bool,
      decodeEvents (eventVector a b c d x) =
        (if d then [.clkRise x] else []) ++ (if c then [.latchRise] else []) ++
        (if b then [.goRise] else []) ++ (if a then [.resetFall] else []) := by decide
  unfold eventsToVector
  rw [bits]
  cases e.clkRise <;> cases e.latchRise <;> cases e.goRise <;> cases e.rstFall <;> simp

/-- An event that the state shows adds nothing to the events it shows. -/
theorem eventsDuring_detected (i : Instr) (s : State)
    (h : i ∈ decodeEvents (eventsToVector (detectEvents s))) :
    i.isCommand = false ∧ eventsDuring i s = detectEvents s := by
  rcases (mem_decodeEvents _ _).1 h with ⟨hd, rfl⟩ | ⟨hd, rfl⟩ | ⟨hd, rfl⟩ | ⟨hd, rfl⟩
  · exact ⟨rfl, by simp [eventsDuring, ← hd]⟩
  · exact ⟨rfl, by simp [eventsDuring, ← hd]⟩
  · exact ⟨rfl, by simp [eventsDuring, ← hd]⟩
  · exact ⟨rfl, by simp [eventsDuring, ← hd]⟩

/-- Everything a step without reset can do: the cycle of the events the state shows, with what the command port
contributes. Whether the step ran it as a command, as an event or as neither makes no difference. -/
theorem step_eq_eventCycle (s : State) (h : (sample s).rstN = true) :
    step s = .next (eventCycle (detectEvents s) s) := by
  unfold step fetch
  rw [if_pos h]
  cases hp : portCommand s with
  | some i =>
    have hc := portCommand_isCommand s i hp
    simp [exec_eq_cycle, eventsDuring_command i s hc, effectDuring, hc, eventCycle, portEffect_eq, hp]
  | none =>
    cases he : (decodeEvents (eventsToVector (detectEvents s))).head? with
    | none => rfl
    | some i =>
      have hm := eventsDuring_detected i s (List.mem_of_mem_head? (by simp [he]))
      simp [exec_event i s hm.1, hm.2]

theorem step_eq_resetCycle (s : State) (h : (sample s).rstN = false) : step s = .next (resetCycle s) := by
  unfold step
  simp [h]

/-- Everything a step can do. -/
theorem step_cases (s t : State) (h : step s = .next t) :
    ((sample s).rstN = true ∧ t = eventCycle (detectEvents s) s) ∨ ((sample s).rstN = false ∧ t = resetCycle s) := by
  cases hr : (sample s).rstN with
  | true => rw [step_eq_eventCycle s hr] at h; cases h; exact .inl ⟨rfl, rfl⟩
  | false => rw [step_eq_resetCycle s hr] at h; cases h; exact .inr ⟨rfl, rfl⟩

/-- Everything a cycle can do: the parts of R44, with the contribution of the command of the cycle, or with a
response alone. -/
theorem cycle_inversion (ev : Events) (c : Option Instr) (s t : State) (h : Cycle ev c s t) :
    ∃ eff, t = cycle Config.params ev eff s ∧
      ((∃ j, c = some j ∧ j.isCommand = true ∧ eff = commandEffect Config.params j s) ∨
       (c = none ∧ ∃ r, eff = respondOnly r)) := by
  rcases h with ⟨i, h, rfl, rfl⟩ | ⟨hr, h, rfl, rfl⟩
  · rw [exec_eq_cycle] at h
    cases h
    exact ⟨_, rfl, effectDuring_cases i s⟩
  · rw [step_eq_eventCycle s hr] at h
    cases h
    refine ⟨_, rfl, ?_⟩
    rw [portEffect_eq]
    cases hp : portCommand s with
    | some j => exact .inl ⟨j, rfl, portCommand_isCommand s j hp, rfl⟩
    | none =>
      refine .inr ⟨rfl, ?_⟩
      cases (sample s).cmdValid
      · exact ⟨_, rfl⟩
      · exact ⟨_, rfl⟩

/-- One step of a run. -/
theorem run_succ (n : Nat) (s t : State) (h : step s = .next t) :
    Sys2Proof.core.run (n + 1) s = Sys2Proof.core.run n t := by
  simp [Host.Core.run, show Sys2Proof.core.step s = .next t from h]

end Sys2Proof.Laws
end

