-- ==== Sys2Proof/Laws/Fsm.lean ====
section
/-! SUPPORT. Once, everything the timers of the FSM can do, and what a cycle inside a session is. -/

namespace Sys2Proof.Laws

open Sys2Proof.Machine Sys2Proof.Safety

/-- R114: the blink step changes `blink_cnt` and `phase`, by the rule's formula, and nothing else. -/
theorem blinkStep_eq (tick : Bool) (e : FsmEffect) :
    blinkStep Config.params tick e = { e with orch := blinked tick e.orch } := by
  unfold blinkStep blinked
  cases tick with
  | false => rfl
  | true =>
    by_cases h : Config.params.blinkTicks ≤ e.orch.blinkCnt.toNat + 1
    · simp [(tickReaches_eq_true _ _).2 h, h]
    · have hf : tickReaches e.orch.blinkCnt Config.params.blinkTicks = false := by simpa [tickReaches] using h
      simp [hf, h]

/-- R116: the watchdog step changes `wd_cnt` and `silence_warn` and nothing else (R117). -/
theorem watchdogStep_eq (tick : Bool) (e : FsmEffect) :
    watchdogStep Config.params tick e =
      { e with
        orch := { e.orch with wdCnt :=
          if tick = true then
            (if e.orch.wdCnt.toNat + 1 ≥ Config.params.watchdogTicks then 0 else e.orch.wdCnt + 1)
          else e.orch.wdCnt }
        out := { e.out with silenceWarn :=
          (tick && decide (e.orch.wdCnt.toNat + 1 ≥ Config.params.watchdogTicks)) || e.out.silenceWarn } } := by
  unfold watchdogStep
  cases tick with
  | false => rfl
  | true =>
    by_cases h : Config.params.watchdogTicks ≤ e.orch.wdCnt.toNat + 1
    · simp [(tickReaches_eq_true _ _).2 h, h]
    · have hf : tickReaches e.orch.wdCnt Config.params.watchdogTicks = false := by simpa [tickReaches] using h
      simp [hf, h]

/-- Inside a session the command port writes nothing but the response (R132). -/
theorem cycle_inside_session (ev : Events) (c : Option Instr) (s t : State) (h : Cycle ev c s t)
    (ha : sessionActive s = true) : ∃ r, t = cycle Config.params ev (respondOnly r) s := by
  obtain ⟨eff, rfl, ⟨j, rfl, -, rfl⟩ | ⟨rfl, r, rfl⟩⟩ := cycle_inversion ev c s t h
  · rcases commandEffect_cases Config.params j s with ⟨r, hr⟩ | ⟨hn, -⟩
    · exact ⟨r, by rw [hr]⟩
    · simp [ha] at hn
  · exact ⟨r, rfl⟩

/-- Everything the command port can do in a cycle: answer, which is all it does with a command that is not accepted
or not mutating; or, outside a session, what an accepted mutating command asks for. -/
theorem cycle_cases (ev : Events) (c : Option Instr) (s t : State) (h : Cycle ev c s t) :
    (∃ r, t = cycle Config.params ev (respondOnly r) s ∧
      (sessionActive s = true ∨ ∀ j, c = some j → j.mutating = false)) ∨
    (sessionActive s = false ∧ ∃ j eff, c = some j ∧ t = cycle Config.params ev eff s ∧
      ((j = .newpkt ∧ eff = { reply (zextFlag s.store.pending) with pendClr := true }) ∨
       (j = .clrgo ∧ eff = { reply 0 with goClr := true }) ∨
       (j = .clrrst ∧ eff = { reply 0 with rstClr := true }) ∨
       (j = .sen ∧ eff = { reply 0 with enWrite := some true }) ∨
       (j = .sdis ∧ eff = { reply 0 with enWrite := some false }) ∨
       (∃ skip go, j = .start skip go ∧ eff = { reply 0 with
          goClr := true, rstClr := true, enWrite := some false,
          orchWrite := some (startSession skip go s.orch) }))) := by
  obtain ⟨eff, rfl, ⟨j, rfl, -, rfl⟩ | ⟨rfl, r, rfl⟩⟩ := cycle_inversion ev c s t h
  · rcases commandEffect_cases Config.params j s with ⟨r, hr⟩ | ⟨hn, hj⟩
    · cases ha : sessionActive s with
      | true => exact .inl ⟨r, by rw [hr], .inl rfl⟩
      | false =>
        refine .inl ⟨r, by rw [hr], .inr ?_⟩
        rintro i ⟨⟩
        cases j <;> first
          | rfl
          | simp [commandEffect, newpktEffect, clrgoEffect, clrrstEffect, senEffect, sdisEffect, startEffect,
              ifOwner, ha, reply, respondOnly] at hr
    · exact .inr ⟨hn, j, _, rfl, rfl, hj⟩
  · exact .inl ⟨r, rfl, .inr (by simp)⟩

/-- Inside a session: the FSM's clears and the enable it writes, state by state (R104, R106, R108 to R111). -/
theorem fsmEffect_writes (s : State) (i : Input) (ha : sessionActive s = true) :
    ((fsmEffect Config.params i s).pendClr = true ↔ (s.orch.fsm = .testing ∧ s.latches.rstL = false)) ∧
    ((fsmEffect Config.params i s).goClr = true ↔
      ((s.orch.fsm = .awaitGo ∨ s.orch.fsm = .awaitGoTest) ∧ s.latches.goL = true) ∨
      (s.orch.fsm = .burnFlash ∧ i.flashDone = true ∧ s.latches.rstL = false ∧ i.flashOk = true)) ∧
    ((fsmEffect Config.params i s).rstClr = true ↔
      ((s.orch.fsm = .awaitGo ∨ s.orch.fsm = .awaitGoTest) ∧
        (s.latches.goL = true ∨ (s.latches.rstL = true ∧ s.orch.cfgRequireGo = false))) ∨
      (s.orch.fsm = .burnFlash ∧ i.flashDone = true ∧ s.latches.rstL = true) ∨
      ((s.orch.fsm = .burnDelay ∨ s.orch.fsm = .testing) ∧ s.latches.rstL = true)) ∧
    ((fsmEffect Config.params i s).enWrite =
      if s.orch.fsm ≠ .testing ∧ (fsmEffect Config.params i s).orch.fsm = .testing then some true
      else if s.orch.fsm = .testing ∧ s.latches.rstL = true then some false else none) := by
  cases hf : s.orch.fsm <;> simp [sessionActive, hf] at ha <;>
    simp only [fsmEffect, hf, fsmAwaitGo, fsmBurnFlash, fsmBurnDelay, fsmAwaitGoTest, fsmTesting, blinkStep_eq,
      watchdogStep_eq]
  case awaitGo =>
    cases s.latches.goL <;> cases s.latches.rstL <;> cases s.orch.cfgRequireGo <;> cases s.orch.cfgSkipBurn <;>
      simp [blinked] <;> (try split) <;> (try split) <;> simp_all
  case burnFlash =>
    cases i.flashDone <;> cases s.latches.rstL <;> cases i.flashOk <;> simp [hf] <;> split <;> simp
  case burnDelay =>
    cases s.latches.rstL <;> simp <;> split <;> (try split) <;> simp_all
  case awaitGoTest =>
    cases s.latches.goL <;> cases s.latches.rstL <;> cases s.orch.cfgRequireGo <;>
      simp [blinked] <;> (try split) <;> (try split) <;> simp_all
  case testing =>
    cases s.latches.rstL <;> cases s.store.pending <;> simp [blinked] <;> split <;> simp

end Sys2Proof.Laws
end

