-- ==== Sys2Proof/Laws/PerInstr.lean ====
section
/-! SUPPORT. The per-instruction family of LAWS.json: an instruction's encoding matches the row that
spec/opcode_table.json gives it (format, match and mask), and lies in no other row of its format. -/

namespace Sys2Proof.Laws

/-- A row of spec/opcode_table.json: format CMD or EVT, match and mask. -/
structure TableRow where
  isCommand : Bool
  pattern : BitVec 8
  mask : BitVec 8
  deriving DecidableEq, Repr

/-- The row of an instruction, copied from the table. -/
def tableRow : Instr → TableRow
  | .nop => ⟨true, 0x00, 0xFF⟩
  | .newpkt => ⟨true, 0x01, 0xFF⟩
  | .rdcap => ⟨true, 0x02, 0xFF⟩
  | .rdlast => ⟨true, 0x03, 0xFF⟩
  | .chg => ⟨true, 0x04, 0xFF⟩
  | .rdgo => ⟨true, 0x05, 0xFF⟩
  | .clrgo => ⟨true, 0x06, 0xFF⟩
  | .rdrst => ⟨true, 0x07, 0xFF⟩
  | .clrrst => ⟨true, 0x08, 0xFF⟩
  | .sen => ⟨true, 0x09, 0xFF⟩
  | .sdis => ⟨true, 0x0A, 0xFF⟩
  | .stat => ⟨true, 0x0B, 0xFF⟩
  | .start _ _ => ⟨true, 0x0C, 0xCF⟩
  | .rdacc => ⟨true, 0x0D, 0xFF⟩
  | .clkRise _ => ⟨false, 0x02, 0x02⟩
  | .latchRise => ⟨false, 0x04, 0x04⟩
  | .goRise => ⟨false, 0x08, 0x08⟩
  | .resetFall => ⟨false, 0x10, 0x10⟩

/-- An encoding lies in a row: the right port, and the row's pattern under its mask. -/
def inRow (r : TableRow) : Encoded → Bool
  | .command w => r.isCommand && (w &&& r.mask == r.pattern)
  | .events e => !r.isCommand && (e.setWidth 8 &&& r.mask == r.pattern)

/-- One instruction per row, with every operand form of START and CLK_RISE left to the lemma's variables. -/
def rowRepresentatives : List Instr :=
  [.nop, .newpkt, .rdcap, .rdlast, .chg, .rdgo, .clrgo, .rdrst, .clrrst, .sen, .sdis, .stat, .start false false,
   .rdacc, .clkRise false, .latchRise, .goRise, .resetFall]

/-- The encoding of an instruction lies in its own row of the table and in no other. -/
abbrev TableRowHolds.Statement (i : Instr) : Prop :=
  inRow (tableRow i) (encode i) = true ∧
  ∀ j ∈ rowRepresentatives, j.mnemonic ≠ i.mnemonic → inRow (tableRow j) (encode i) = false

theorem TableRowHolds.nop : TableRowHolds.Statement .nop := by decide
theorem TableRowHolds.newpkt : TableRowHolds.Statement .newpkt := by decide
theorem TableRowHolds.rdcap : TableRowHolds.Statement .rdcap := by decide
theorem TableRowHolds.rdlast : TableRowHolds.Statement .rdlast := by decide
theorem TableRowHolds.chg : TableRowHolds.Statement .chg := by decide
theorem TableRowHolds.rdgo : TableRowHolds.Statement .rdgo := by decide
theorem TableRowHolds.clrgo : TableRowHolds.Statement .clrgo := by decide
theorem TableRowHolds.rdrst : TableRowHolds.Statement .rdrst := by decide
theorem TableRowHolds.clrrst : TableRowHolds.Statement .clrrst := by decide
theorem TableRowHolds.sen : TableRowHolds.Statement .sen := by decide
theorem TableRowHolds.sdis : TableRowHolds.Statement .sdis := by decide
theorem TableRowHolds.stat : TableRowHolds.Statement .stat := by decide
theorem TableRowHolds.start (s g : Bool) : TableRowHolds.Statement (.start s g) := by
  cases s <;> cases g <;> decide
theorem TableRowHolds.rdacc : TableRowHolds.Statement .rdacc := by decide
theorem TableRowHolds.clkRise (d : Bool) : TableRowHolds.Statement (.clkRise d) := by cases d <;> decide
theorem TableRowHolds.latchRise : TableRowHolds.Statement .latchRise := by decide
theorem TableRowHolds.goRise : TableRowHolds.Statement .goRise := by decide
theorem TableRowHolds.resetFall : TableRowHolds.Statement .resetFall := by decide

end Sys2Proof.Laws
end

