-- ==== Sys2Proof/Tests/Slice0.lean ====
section
/-! SUPPORT. Tests of the model on fixed values, and for each obligation with hypotheses a named witness that meets
them. The expected values come from spec/95_test_vectors.md, whose vector is named at each test, or were worked from
the rule named there; the parameters, where a test needs them, are that file's test-only values. -/

namespace Sys2Proof.Tests

open Sys2Proof.Machine Sys2Proof.Safety

/-! ### Helpers -/

/-- The reset state with one decided sample, that of R74's defaults. -/
def base : State := withSample State.reset Input.quiet

/-- The next state of an outcome. -/
def nextOf (o : Host.Outcome State Fault Refusal) : Option State :=
  match o with
  | .next t => some t
  | .fault _ => none
  | .refused _ => none

/-- The response after an outcome, as valid, data and the code of R67. -/
def answer (o : Host.Outcome State Fault Refusal) : Option (Bool × Word × BitVec 2) :=
  (nextOf o).map (fun t => (t.rsp.valid, t.rsp.data, errorCode t.rsp.err))

/-- What a test looks at of the sampler and the store: acc, en, cur, last, pending. -/
def frames (s : State) : Word × Bool × Word × Word × Bool :=
  (s.sampler.acc, s.sampler.en, s.store.cur, s.store.last, s.store.pending)

/-- No event. -/
def noEvents : Events :=
  { rstFall := false, goRise := false, latchRise := false, clkRise := false, dataBit := false }

/-- A sample with `w` on the command port. -/
def port (w : CommandWord) : Input := { Input.quiet with cmdValid := true, cmd := w }

/-- One cycle with the test-only parameters, no command and the sample `i`. -/
def fsmCycle (i : Input) (s : State) : State := cycle Params.testOnly noEvents noCommand (withSample s i)

/-- `base` with the FSM in the state `f`. -/
def inState (f : FsmState) : State := { base with orch := { base.orch with fsm := f } }

/-! ### Well-formedness: each check refuses an ill-formed term -/

/-- R74: two CLOCK edges in neighbouring cycles are closer than 2 cycles. -/
theorem test_illFormed_clock : EventLine.wellFormedProgram [{ clk := some true }, { clk := some false }] = false := by
  decide

theorem test_illFormed_latch : EventLine.wellFormedProgram [{}, { latch := true }, { latch := true }] = false := by
  decide

theorem test_illFormed_go : EventLine.wellFormedProgram [{ go := true }, { go := true }] = false := by decide

theorem test_illFormed_reset : EventLine.wellFormedProgram [{ rst := true }, { rst := true }, {}] = false := by decide

/-- Program Q1 spaces its CLOCK edges by 2 cycles. -/
theorem test_wellFormed_spaced :
    EventLine.wellFormedProgram [{ clk := some true }, {}, { clk := some false }, { latch := true }] = true := by decide

/-- R61: no instruction is ill formed. -/
theorem test_wellFormed_instruction : (Instr.start true false).wellFormed = true := by decide

/-- The ranges of R6: each bound refuses the value next to it. -/
theorem test_illegal_tickRate : ¬ { Params.testOnly with ticksPerSecond := 0 }.Legal := by decide
theorem test_illegal_blink : ¬ { Params.testOnly with blinkTicks := 0 }.Legal := by decide
theorem test_illegal_watchdog : ¬ { Params.testOnly with watchdogTicks := 2 ^ 32 }.Legal := by decide
theorem test_illegal_retry : ¬ { Params.testOnly with retryDelayTicks := 2 ^ 32 }.Legal := by decide
theorem test_illegal_attempts :
    ¬ { Params.testOnly with maxFlashAttempts := 0 }.Legal ∧ ¬ { Params.testOnly with maxFlashAttempts := 4 }.Legal := by
  decide
theorem test_illegal_patterns : ¬ { Params.testOnly with patTest0 := 0x02, patTest1 := 0x01 }.Legal := by decide
theorem test_illegal_levels : ¬ { Params.testOnly with minLevelCycles := 1 }.Legal := by decide

/-! ### Decoding: every constructor from a word written out bit by bit from R61, R63 and R60 -/

theorem test_decode_nop : commandOf 0b00000000 = some .nop := by decide
theorem test_decode_newpkt : commandOf 0b00000001 = some .newpkt := by decide
theorem test_decode_rdcap : commandOf 0b00000010 = some .rdcap := by decide
theorem test_decode_rdlast : commandOf 0b00000011 = some .rdlast := by decide
theorem test_decode_chg : commandOf 0b00000100 = some .chg := by decide
theorem test_decode_rdgo : commandOf 0b00000101 = some .rdgo := by decide
theorem test_decode_clrgo : commandOf 0b00000110 = some .clrgo := by decide
theorem test_decode_rdrst : commandOf 0b00000111 = some .rdrst := by decide
theorem test_decode_clrrst : commandOf 0b00001000 = some .clrrst := by decide
theorem test_decode_sen : commandOf 0b00001001 = some .sen := by decide
theorem test_decode_sdis : commandOf 0b00001010 = some .sdis := by decide
theorem test_decode_stat : commandOf 0b00001011 = some .stat := by decide
theorem test_decode_start_none : commandOf 0b00001100 = some (.start false false) := by decide
theorem test_decode_start_skip : commandOf 0b00011100 = some (.start true false) := by decide
theorem test_decode_start_go : commandOf 0b00101100 = some (.start false true) := by decide
theorem test_decode_start_both : commandOf 0b00111100 = some (.start true true) := by decide
theorem test_decode_rdacc : commandOf 0b00001101 = some .rdacc := by decide
theorem test_decode_clkRise : decode (.events 0b00011) = some (.clkRise true) := by decide
theorem test_decode_clkRise_low : decode (.events 0b00010) = some (.clkRise false) := by decide
theorem test_decode_latchRise : decode (.events 0b00100) = some .latchRise := by decide
theorem test_decode_goRise : decode (.events 0b01000) = some .goRise := by decide
theorem test_decode_resetFall : decode (.events 0b10000) = some .resetFall := by decide

/-- R60: events are not exclusive. -/
theorem test_decode_two_events : decodeEvents 0b10110 = [.clkRise false, .latchRise, .resetFall] := by decide

/-- Section 2.5: 0x0E, 0x0F; 0x10, 0x11, 0x1D; 0x40, 0x4C, 0x80, 0xCC, 0xFF are reserved. -/
theorem test_decode_reserved :
    [0x0E, 0x0F, 0x10, 0x11, 0x1D, 0x40, 0x4C, 0x80, 0xCC, 0xFF].map commandOf = List.replicate 10 none := by decide

/-- Section 2.5: 17 of the 256 words are defined, all of them with `cmd[7:6] == 0`. -/
theorem test_decode_counts :
    ((List.range 64).filter (fun n => (commandOf (BitVec.ofNat 8 n)).isSome)).length = 17 ∧
    ∀ w : CommandWord, w.extractLsb' 6 2 ≠ 0#2 → commandOf w = none := by decide

/-- R72: the assembler text. -/
theorem test_text_start : (Instr.start true false).text = "START 1, 0" := by decide

/-- R73. -/
theorem test_expand_poll : Pseudo.poll.expand = [some .newpkt, some .rdcap] := by decide

/-- R73. -/
theorem test_expand_clrall : Pseudo.clrall.expand = [some .clrgo, some .clrrst] := by decide

/-- R73: `WAIT 2` is two cycles with `cmd_valid == 0`. -/
theorem test_expand_wait : (Pseudo.wait 2).expand = [none, none] := by decide

/-! ### Words of the opcode table -/

/-- Each row's own match word, in 8 bits; the words of CLK_RISE, LATCH_RISE and GO_RISE are those of RDCAP, CHG and
CLRRST (assumption 6). -/
theorem test_tableWords :
    [0x00, 0x01, 0x02, 0x03, 0x04, 0x05, 0x06, 0x07, 0x08, 0x09, 0x0A, 0x0B, 0x0C, 0x0D, 0x10].map (decodeTableWord 8) =
      [.nop, .newpkt, .rdcap, .rdlast, .chg, .rdgo, .clrgo, .rdrst, .clrrst, .sen, .sdis, .stat, .start false false,
       .rdacc, .resetFall].map some := by decide

/-- Fewer than 8 bits is an event vector; a word with bits beyond its space is none. -/
theorem test_tableWords_events :
    decodeTableWord 5 0x02 = some (.clkRise false) ∧ decodeTableWord 5 0x04 = some .latchRise ∧
    decodeTableWord 5 0x08 = some .goRise ∧ decodeTableWord 8 0x100 = none ∧ decodeTableWord 8 0x0E = none := by decide

/-- The step from reset runs a command word. -/
theorem test_fetchWord_start :
    step (State.reset.withFetchWord 8 0x3C) = exec (.start true true) (State.reset.withFetchWord 8 0x3C) := rfl

/-- The step from reset runs an event. -/
theorem test_fetchWord_event : step (State.reset.withFetchWord 8 0x10) = exec .resetFall (State.reset.withFetchWord 8 0x10) :=
  rfl

/-! ### One instruction, one step -/

/-- Section 2.5, word 0x00. -/
theorem test_nop : answer (exec .nop base) = some (true, 0, 0) := by decide

/-- P1. -/
theorem test_newpkt :
    answer (exec .newpkt { base with store := { base.store with pending := true } }) = some (true, 1, 0) := by decide

/-- P3: the set of a capture wins over NEWPKT's clear. -/
theorem test_newpkt_capture_wins :
    frames (cycle Params.testOnly { noEvents with latchRise := true }
      (commandEffect Params.testOnly .newpkt base)
      { base with sampler := { acc := 7, en := true }, store := { cur := 5, last := 0, pending := true } }) =
      (0, true, 7, 5, true) := by decide

/-- P4. -/
theorem test_rdcap :
    answer (exec .rdcap { base with store := { cur := 7, last := 0, pending := true } }) = some (true, 7, 0) := by decide

/-- P4: `pending` stays 1 (C4). -/
theorem test_rdcap_keeps_pending :
    (nextOf (exec .rdcap { base with store := { cur := 7, last := 0, pending := true } })).map (fun t => t.store.pending) =
      some true := by decide

/-- P5. -/
theorem test_rdlast :
    answer (exec .rdlast { base with store := { cur := 7, last := 5, pending := false } }) = some (true, 5, 0) := by decide

/-- P6. -/
theorem test_chg_equal :
    answer (exec .chg { base with store := { cur := 5, last := 5, pending := false } }) = some (true, 0, 0) := by decide

/-- P7. -/
theorem test_chg_differs :
    answer (exec .chg { base with store := { cur := 0, last := 5, pending := false } }) = some (true, 1, 0) := by decide

/-- L7. -/
theorem test_rdgo :
    answer (exec .rdgo { base with latches := { goL := true, rstL := false } }) = some (true, 1, 0) := by decide

/-- L3. -/
theorem test_clrgo :
    (nextOf (exec .clrgo { base with latches := { goL := true, rstL := true } })).map (fun t => t.latches) =
      some { goL := false, rstL := true } := by decide

/-- L4: the edge wins over the clear. -/
theorem test_clrgo_edge_wins :
    (cycle Params.testOnly { noEvents with goRise := true } (commandEffect Params.testOnly .clrgo base)
      { base with latches := { goL := true, rstL := false } }).latches = { goL := true, rstL := false } := by decide

/-- L8. -/
theorem test_rdrst : answer (exec .rdrst base) = some (true, 0, 0) := by decide

/-- L5, L9: the latches are independent. -/
theorem test_clrrst :
    (nextOf (exec .clrrst { base with latches := { goL := true, rstL := true } })).map (fun t => t.latches) =
      some { goL := true, rstL := false } := by decide

/-- S8: the event of the enabling cycle is dropped. -/
theorem test_sen_enables :
    frames (cycle Params.testOnly { noEvents with clkRise := true, dataBit := true } (commandEffect Params.testOnly .sen base)
      { base with sampler := { acc := 7, en := false } }) = (0, true, 0, 0, false) := by decide

/-- S9: already enabled, the event acts and `acc` is kept. -/
theorem test_sen_enabled :
    frames (cycle Params.testOnly { noEvents with clkRise := true, dataBit := true } (commandEffect Params.testOnly .sen base)
      { base with sampler := { acc := 7, en := true } }) = (0xF, true, 0, 0, false) := by decide

/-- S10: the events of the disabling cycle act. -/
theorem test_sdis_events_act :
    frames (cycle Params.testOnly { noEvents with clkRise := true, latchRise := true, dataBit := true }
      (commandEffect Params.testOnly .sdis base)
      { base with sampler := { acc := 2, en := true }, store := { cur := 9, last := 0, pending := false } }) =
      (0, false, 5, 9, true) := by decide

/-- B2: refused in a session. -/
theorem test_sdis_busy :
    (cycle Params.testOnly noEvents (commandEffect Params.testOnly .sdis (inState .testing)) (inState .testing)).rsp =
      { valid := true, data := 0, err := .busy } := by decide

/-- ST1. -/
theorem test_stat_testing :
    statusWord Params.testOnly { base with
      sampler := { acc := 0, en := true }
      store := { cur := 5, last := 0, pending := true }
      orch := { base.orch with fsm := .testing, cfgSkipBurn := true, phase := true } } = 0x0A008553 := by decide

/-- Section 2.5, word 0x0B. -/
theorem test_stat_reset : answer (exec .stat base) = some (true, 0x00000000, 0) := by decide

/-- F30. -/
theorem test_start_from_done :
    (nextOf (exec (.start false false) { base with
      orch := { base.orch with fsm := .done, result := .success, attempts := 2, cfgSkipBurn := true } })).map
        (fun t => t.orch) = some { base.orch with fsm := .awaitGo } := by decide

/-- F34: the latches are cleared and the sampler disabled, but `pending` stays. -/
theorem test_start_clears :
    (nextOf (exec (.start false false) { base with
      sampler := { acc := 0, en := true }
      store := { cur := 0, last := 0, pending := true }
      latches := { goL := true, rstL := true } })).map (fun t => (frames t, t.latches)) =
      some ((0, false, 0, 0, true), { goL := false, rstL := false }) := by decide

/-- S14: the read sees the pre-state, and the event acts. -/
theorem test_rdacc :
    answer (exec .rdacc { base with sampler := { acc := 0x1234, en := true } }) = some (true, 0x1234, 0) := by decide

/-- S3: bit 31 is shifted out. -/
theorem test_clkRise_wraps :
    (nextOf (exec (.clkRise true) { base with sampler := { acc := 0x80000000, en := true } })).map frames =
      some (1, true, 0, 0, false) := by decide

/-- S7: disabled, nothing. -/
theorem test_clkRise_disabled :
    (nextOf (exec (.clkRise true) { base with sampler := { acc := 7, en := false } })).map frames =
      some (7, false, 0, 0, false) := by decide

/-- S5. -/
theorem test_latchRise :
    (nextOf (exec .latchRise { base with
      sampler := { acc := 5, en := true }, store := { cur := 3, last := 1, pending := false } })).map frames =
      some (0, true, 5, 3, true) := by decide

/-- S6: the CLOCK bit of the same cycle closes the frame. -/
theorem test_latchRise_with_clock :
    frames (cycle Params.testOnly { noEvents with clkRise := true, latchRise := true, dataBit := true } noCommand
      { base with sampler := { acc := 2, en := true }, store := { cur := 3, last := 0, pending := false } }) =
      (0, true, 5, 3, true) := by decide

/-- L1. -/
theorem test_goRise :
    (nextOf (exec .goRise base)).map (fun t => t.latches) = some { goL := true, rstL := false } := by decide

/-- L2. -/
theorem test_resetFall :
    (nextOf (exec .resetFall base)).map (fun t => t.latches) = some { goL := false, rstL := true } := by decide

/-! ### The FSM and the reset -/

/-- F2: the skip-burn path, GO before RESET. -/
theorem test_fsm_skip :
    let t := fsmCycle Input.quiet { inState .awaitGo with
      sampler := { acc := 9, en := false }, latches := { goL := true, rstL := true }
      orch := { base.orch with fsm := .awaitGo, cfgSkipBurn := true } }
    t.orch.fsm = .testing ∧ frames t = (0, true, 0, 0, false) ∧ t.latches = { goL := false, rstL := false } := by decide

/-- F7, with the indicator after it. -/
theorem test_fsm_blink :
    led Params.testOnly (fsmCycle { Input.quiet with tick := true }
      { base with orch := { base.orch with fsm := .awaitGo, blinkCnt := 1 } }) = 0x02 := by decide

/-- F9: RESET beats the result, and the failure is reported. -/
theorem test_fsm_abort_burn :
    let t := fsmCycle { Input.quiet with flashDone := true } { base with
      latches := { goL := false, rstL := true }, orch := { base.orch with fsm := .burnFlash, attempts := 1 } }
    t.orch.fsm = .done ∧ t.orch.result = .aborted ∧ t.out.attemptFail = true ∧ t.latches.rstL = false := by decide

/-- F15: the retry. -/
theorem test_fsm_retry :
    let t := fsmCycle { Input.quiet with tick := true }
      { base with orch := { base.orch with fsm := .burnDelay, attempts := 1, dlyCnt := 1 } }
    t.orch.fsm = .burnFlash ∧ t.orch.attempts = 2 ∧ t.out.flashStart = true := by decide

/-- F27: the frame beats the watchdog. -/
theorem test_fsm_view :
    let t := fsmCycle { Input.quiet with tick := true } { base with
      sampler := { acc := 0, en := true }, store := { cur := 5, last := 3, pending := true }
      orch := { base.orch with fsm := .testing, wdCnt := 2 } }
    t.store.pending = false ∧ t.orch.wdCnt = 0 ∧ t.orch.blinkCnt = 1 ∧ t.out.viewValid = true ∧ t.out.viewFrame = 5 ∧
    t.out.silenceWarn = false := by decide

/-- F25: silence. -/
theorem test_fsm_silence :
    (fsmCycle { Input.quiet with tick := true } { base with
      sampler := { acc := 0, en := true }, orch := { base.orch with fsm := .testing, wdCnt := 2 } }).out.silenceWarn =
      true := by decide

/-- R1: a reset cycle ignores its command. -/
theorem test_reset_cycle :
    nextOf (step (withSample { inState .testing with rsp := { valid := true, data := 1, err := .ok } }
      { port 0x0C with rstN := false })) = some { State.reset with env := { stim := [], draws := 0 } } := by decide

/-- R146, R147: what the environment owes, met and broken. -/
theorem test_duties_met :
    EnvironmentDuties Params.testOnly
      [{ Input.quiet with resetIn := true, tick := true }, { Input.quiet with resetIn := true }] := by
  simp [EnvironmentDuties, minLevelsHeld, levelsHeld, pulsed, Input.quiet]

/-- 91_not_in_source.md N17: a pin that is at either level in the first sample and changes after it breaks no duty. -/
theorem test_duties_any_idle_level :
    minLevelsHeld 2 [false, true, true] ∧ minLevelsHeld 2 [true, false, false] := by
  simp [minLevelsHeld, levelsHeld]

/-- R146: a level that begins within the list and lasts one cycle of the two breaks it. -/
theorem test_duties_short_level :
    ¬ minLevelsHeld 2 [false, true, false] ∧ ¬ minLevelsHeld 2 [true, false, true] := by
  simp [minLevelsHeld, levelsHeld]

theorem test_duties_broken :
    ¬ levelsHeld 2 false 2 [true, false] ∧ ¬ pulsed [true, true] := by simp [levelsHeld, pulsed]

/-! ### Witnesses: for each statement with hypotheses, a concrete input that meets them, clause by clause

A step without reset at `s` is the cycle `Cycle (detectEvents s) (portCommand s) s (after s)`. -/

/-- The state after the step without reset of `s`. -/
def after (s : State) : State := eventCycle (detectEvents s) s

/-- The cycle a step without reset is. -/
abbrev CycleAt (s : State) : Prop := Safety.Cycle (detectEvents s) (portCommand s) s (after s)

theorem cycleAt (s : State) (h : (sample s).rstN = true) : CycleAt s :=
  .inr ⟨h, Laws.step_eq_eventCycle s h, rfl, rfl⟩

/-- The reset state, with a session in `AWAIT_GO`, the latches and the configuration given. -/
def await (goL rstL skip go : Bool) (f : FsmState) (i : Input) : State :=
  withSample { State.reset with
    latches := { goL := goL, rstL := rstL }
    orch := { State.reset.orch with fsm := f, cfgSkipBurn := skip, cfgRequireGo := go } } i

/-- A BURN state in attempt `n`. -/
def burn (f : FsmState) (n : BitVec 2) (rstL : Bool) (i : Input) : State :=
  withSample { State.reset with
    latches := { goL := false, rstL := rstL }, orch := { State.reset.orch with fsm := f, attempts := n } } i

/-- `TESTING`, with the flags given. -/
def test (pending rstL : Bool) (i : Input) : State :=
  withSample { State.reset with
    sampler := { acc := 0, en := true }, store := { cur := 5, last := 3, pending := pending }
    latches := { goL := false, rstL := rstL }, orch := { State.reset.orch with fsm := .testing } } i

/-- The state that shows the event vector `v`, enabled or not, with the word of `i` on the port. -/
def showing (v : EventVector) (en : Bool) (i : Input) : State :=
  withSample (presentEvents { State.reset with sampler := { acc := 5, en := en } } v) i

/-! #### Encoding and the step -/

/-- A state whose counters are at 0 and which has started no attempt meets the invariant on the counters, whatever the
parameters; with one attempt started it does so outside `BURN_DELAY`. -/
theorem counters_zero (s : State) (hb : s.orch.blinkCnt = 0) (hw : s.orch.wdCnt = 0) (hd : s.orch.dlyCnt = 0)
    (ha : s.orch.attempts = 0 ∨ (s.orch.attempts = 1 ∧ s.orch.fsm ≠ .burnDelay)) :
    CounterInvariant Config.params s := by
  have h1 := Laws.blinkTicks_pos
  have h2 := Laws.watchdogTicks_pos
  have h3 := Laws.maxFlashAttempts_pos
  refine ⟨by simpa [hb] using h1, by simpa [hw] using h2, ?_, ?_, fun _ => .inl hd⟩
  · rcases ha with ha | ⟨ha, -⟩ <;> simp [ha] <;> omega
  · intro hf
    rcases ha with ha | ⟨-, hn⟩
    · simpa [ha] using h3
    · exact absurd hf hn

theorem witness_DecodeInvertsEncode :
    (Instr.start true true).wellFormed = true ∧ commandOf 0x3C = some (.start true true) ∧ decodeEvents 1 = [] := by
  decide

theorem witness_ReservedWordsAreRefused :
    (sample (withSample base (port 0xFF))).rstN = true ∧ (sample (withSample base (port 0xFF))).cmdValid = true ∧
    commandOf (sample (withSample base (port 0xFF))).cmd = none ∧ commandOf 0x0E = none ∧ commandOf 0x1D = none := by
  decide

theorem witness_StepRunsPresentedCommand :
    (sample (withSample base (port 0x2C))).rstN = true ∧ (sample (withSample base (port 0x2C))).cmdValid = true ∧
    decodeCommand (sample (withSample base (port 0x2C))).cmd = .command (.start false true) := by decide

theorem witness_StepRunsEveryDetectedEvent :
    (sample (showing 0b10111 true (port 0x01))).rstN = true ∧
    decodeEvents (eventsToVector (detectEvents (showing 0b10111 true (port 0x01)))) =
      [.clkRise true, .latchRise, .resetFall] := by decide

theorem witness_StepWithoutCommand :
    ((sample base).rstN = true ∧ portCommand base = none ∧ (sample base).cmdValid = false) ∧
    (sample (withSample base (port 0xFF))).rstN = true ∧ portCommand (withSample base (port 0xFF)) = none ∧
    (sample (withSample base (port 0xFF))).cmdValid = true := by decide

theorem witness_ResetCycleLoadsResetState :
    (sample (test true true { port 0x0C with rstN := false })).rstN = false := by decide

/-! #### Every cycle -/

/-- Both values of the warm-up's end: `arm` below 3 and at 3. -/
theorem witness_SynchronizersShiftEveryCycle :
    (CycleAt base ∧ base.sync.arm ≠ 3) ∧
    CycleAt (showing 0b00010 true Input.quiet) ∧ (showing 0b00010 true Input.quiet).sync.arm = 3 :=
  ⟨⟨cycleAt _ rfl, by decide⟩, cycleAt _ rfl, by decide⟩

/-- A LATCH edge with the sampler enabled; a CLOCK edge; SEN from the disabled sampler; nothing. -/
theorem witness_AccumulatorAndCapture :
    (CycleAt (showing 0b00111 true Input.quiet) ∧
      captures (detectEvents (showing 0b00111 true Input.quiet)) (showing 0b00111 true Input.quiet) = true) ∧
    (CycleAt (showing 0b00011 true Input.quiet) ∧ (after (showing 0b00011 true Input.quiet)).sampler.acc = 0xB) ∧
    (CycleAt (showing 0b00011 false (port 0x09)) ∧ (showing 0b00011 false (port 0x09)).sampler.en = false ∧
      (after (showing 0b00011 false (port 0x09))).sampler.en = true) ∧
    CycleAt (showing 0b00111 false Input.quiet) ∧ (after (showing 0b00111 false Input.quiet)).sampler.acc = 5 :=
  ⟨⟨cycleAt _ rfl, by decide⟩, ⟨cycleAt _ rfl, by decide⟩, ⟨cycleAt _ rfl, by decide⟩, cycleAt _ rfl, by decide⟩

/-- Two cycles from one state with the sampler disabled and different bus events; the same with the sampler
staying disabled, and with `pending` set after it. -/
theorem witness_DisabledSamplerIgnoresBus :
    let s : State := { base with store := { cur := 5, last := 3, pending := true } }
    s.sampler.en = false ∧
    (∃ t t', Safety.Cycle (eventsDuring (.clkRise true) s) (portCommand s) s t ∧
      Safety.Cycle (eventsDuring .latchRise s) (portCommand s) s t' ∧
      t.sampler.en = false ∧ t.store.pending = true) :=
  ⟨rfl, _, _, .inl ⟨.clkRise true, rfl, rfl, rfl⟩, .inl ⟨.latchRise, rfl, rfl, rfl⟩, rfl, rfl⟩

/-- A capture against NEWPKT, a GO edge against CLRGO, a RESET edge against CLRRST. -/
theorem witness_SetWinsOverClear :
    (CycleAt (showing 0b00100 true (port 0x01)) ∧
      PendClr (portCommand (showing 0b00100 true (port 0x01))) (showing 0b00100 true (port 0x01))) ∧
    (CycleAt (showing 0b01000 true (port 0x06)) ∧
      GoClr (portCommand (showing 0b01000 true (port 0x06))) (showing 0b01000 true (port 0x06))) ∧
    CycleAt (showing 0b10000 true (port 0x08)) ∧
      RstClr (portCommand (showing 0b10000 true (port 0x08))) (showing 0b10000 true (port 0x08)) :=
  ⟨⟨cycleAt _ rfl, .inl ⟨rfl, fun _ => rfl⟩⟩, ⟨cycleAt _ rfl, .inl ⟨rfl, fun _ => rfl⟩⟩, cycleAt _ rfl,
    .inl ⟨rfl, fun _ => rfl⟩⟩

/-- SEN, the entry to `TESTING`, and a sampler that stays enabled. -/
theorem witness_EnableHasOneWriter :
    (CycleAt (withSample base (port 0x09)) ∧
      accepted (portCommand (withSample base (port 0x09))) (withSample base (port 0x09)) .sen) ∧
    (CycleAt (await true false true false .awaitGo Input.quiet) ∧
      (after (await true false true false .awaitGo Input.quiet)).orch.fsm = .testing) ∧
    CycleAt (showing 0 true Input.quiet) ∧ (after (showing 0 true Input.quiet)).sampler.en = true :=
  ⟨⟨cycleAt _ rfl, ⟨rfl, fun _ => rfl⟩⟩, ⟨cycleAt _ rfl, rfl⟩, cycleAt _ rfl, rfl⟩

/-- Reset, no command, a reserved word, a refused command and a performed one. -/
theorem witness_ResponseEveryStep :
    (∃ t, step (withSample base { Input.quiet with rstN := false }) = .next t) ∧
    (∃ t, step base = .next t ∧ (sample base).rstN = true ∧ (sample base).cmdValid = false) ∧
    (∃ t, step (withSample base (port 0xFF)) = .next t ∧ commandOf 0xFF = none) ∧
    (∃ t, step (test false false (port 0x0A)) = .next t ∧ commandOf 0x0A = some .sdis ∧ Instr.sdis.mutating = true ∧
      sessionActive (test false false (port 0x0A)) = true) ∧
    ∃ t, step (withSample base (port 0x0A)) = .next t ∧ sessionActive (withSample base (port 0x0A)) = false :=
  ⟨⟨_, rfl⟩, ⟨_, rfl, rfl, rfl⟩, ⟨_, rfl, rfl⟩, ⟨_, rfl, rfl, rfl, rfl⟩, _, rfl, rfl⟩

theorem witness_BusyCommandOnlyAnswers :
    (Instr.start true true).mutating = true ∧ sessionActive (burn .burnDelay 1 false Input.quiet) = true := by decide

theorem witness_OwnershipOutsideSession :
    (Instr.rdacc.isCommand = true ∧ Instr.rdacc.mutating = false) ∧
    CycleAt (withSample base (port 0x0D)) ∧ sessionActive (withSample base (port 0x0D)) = false ∧
    (∀ i, portCommand (withSample base (port 0x0D)) = some i → i.mutating = false) :=
  ⟨⟨rfl, rfl⟩, cycleAt _ rfl, rfl, by intro i h; cases h; rfl⟩

/-! #### Commands: the two premises of NEWPKT, CLRGO, CLRRST, SEN, SDIS and START -/

theorem witness_outside_session :
    sessionActive base = false ∧ sessionActive (inState .done) = false ∧ sessionActive (inState .unused) = false := by
  decide

theorem witness_inside_session :
    sessionActive (inState .awaitGo) = true ∧ sessionActive (inState .burnFlash) = true ∧
    sessionActive (inState .testing) = true := by decide

theorem witness_encodedAs : (0x01 : CommandWord).extractLsb' 0 4 = 0x1#4 ∧ (0xF1 : CommandWord).extractLsb' 0 4 = 0x1#4 := by
  decide

theorem witness_StartBeginsSession :
    (0xCC : CommandWord).extractLsb' 0 4 = 0xC#4 ∧ (0xCC : CommandWord).extractLsb' 6 2 ≠ 0#2 := by decide

theorem witness_NewpktTwiceAnswersZero :
    let s : State := { base with store := { base.store with pending := true } }
    sessionActive s = false ∧ (s.sampler.en && (detectEvents s).latchRise) = false ∧
    ∃ t u, exec .newpkt s = .next t ∧ exec .newpkt t = .next u :=
  ⟨rfl, rfl, _, _, rfl, rfl⟩

/-! #### The FSM, state by state -/

theorem witness_IdleAndDoneHold :
    (CycleAt base ∧ base.orch.fsm = .idle ∧ portCommand base = none) ∧
    CycleAt (withSample (inState .done) (port 0x0C)) ∧ (withSample (inState .done) (port 0x0C)).orch.fsm = .done ∧
    startAccepted (portCommand (withSample (inState .done) (port 0x0C))) (withSample (inState .done) (port 0x0C)) :=
  ⟨⟨cycleAt _ rfl, rfl, rfl⟩, cycleAt _ rfl, rfl, false, false, rfl, fun _ => rfl⟩

/-- GO with the skip-burn option, GO without it, RESET, and RESET that `cfg_require_go` leaves latched. -/
theorem witness_AwaitGoTransitions :
    (∀ goL rstL skip go i, CounterInvariant Config.params (await goL rstL skip go .awaitGo i)) ∧
    (CycleAt (await true true true false .awaitGo Input.quiet) ∧
      (await true true true false .awaitGo Input.quiet).latches.goL = true ∧
      (await true true true false .awaitGo Input.quiet).orch.cfgSkipBurn = true) ∧
    (CycleAt (await true true false false .awaitGo Input.quiet) ∧
      (await true true false false .awaitGo Input.quiet).orch.cfgSkipBurn = false) ∧
    (CycleAt (await false true false false .awaitGo Input.quiet) ∧
      (await false true false false .awaitGo Input.quiet).latches.rstL = true ∧
      (await false true false false .awaitGo Input.quiet).orch.cfgRequireGo = false) ∧
    CycleAt (await false true false true .awaitGo Input.quiet) ∧
    (await false true false true .awaitGo Input.quiet).orch.fsm = .awaitGo ∧
    (await false true false true .awaitGo Input.quiet).latches.goL = false ∧
    ¬ ((await false true false true .awaitGo Input.quiet).latches.rstL = true ∧
      (await false true false true .awaitGo Input.quiet).orch.cfgRequireGo = false) :=
  ⟨fun _ _ _ _ _ => counters_zero _ rfl rfl rfl (.inl rfl), ⟨cycleAt _ rfl, rfl, rfl⟩, ⟨cycleAt _ rfl, rfl⟩,
    ⟨cycleAt _ rfl, rfl, rfl⟩, cycleAt _ rfl, rfl, rfl, by decide⟩

/-- A flasher's answer. -/
def flashed (ok : Bool) : Input := { Input.quiet with flashDone := true, flashOk := ok }

/-- An attempt ends with RESET latched, with success, with a failure before the last attempt and with one at the
last attempt (for every legal parameter: 0 starts are below the limit, 3 are not); and it goes on. -/
theorem witness_BurnFlashTransitions :
    (CycleAt (burn .burnFlash 1 true (flashed false)) ∧ (burn .burnFlash 1 true (flashed false)).latches.rstL = true) ∧
    (CycleAt (burn .burnFlash 1 false (flashed true)) ∧ (sample (burn .burnFlash 1 false (flashed true))).flashOk = true) ∧
    (CycleAt (burn .burnFlash 0 false (flashed false)) ∧
      (burn .burnFlash 0 false (flashed false)).orch.attempts.toNat < Config.params.maxFlashAttempts) ∧
    (CycleAt (burn .burnFlash 3 false (flashed false)) ∧
      ¬ (burn .burnFlash 3 false (flashed false)).orch.attempts.toNat < Config.params.maxFlashAttempts) ∧
    CycleAt (burn .burnFlash 1 true Input.quiet) ∧ (burn .burnFlash 1 true Input.quiet).orch.fsm = .burnFlash ∧
    (sample (burn .burnFlash 1 true Input.quiet)).flashDone = false :=
  ⟨⟨cycleAt _ rfl, rfl⟩, ⟨cycleAt _ rfl, rfl⟩, ⟨cycleAt _ rfl, Laws.maxFlashAttempts_pos⟩,
    ⟨cycleAt _ rfl, Nat.not_lt.2 Laws.maxFlashAttempts_le⟩, cycleAt _ rfl, rfl, rfl⟩

theorem witness_BurnDelayTransitions :
    (∀ rstL i, CounterInvariant Config.params (burn .burnDelay 0 rstL i)) ∧
    (CycleAt (burn .burnDelay 0 true Input.quiet) ∧ (burn .burnDelay 0 true Input.quiet).latches.rstL = true) ∧
    CycleAt (burn .burnDelay 0 false Input.quiet) ∧ (burn .burnDelay 0 false Input.quiet).orch.fsm = .burnDelay ∧
    (burn .burnDelay 0 false Input.quiet).latches.rstL = false :=
  ⟨fun _ _ => counters_zero _ rfl rfl rfl (.inl rfl), ⟨cycleAt _ rfl, rfl⟩, cycleAt _ rfl, rfl, rfl⟩

theorem witness_AwaitGoTestTransitions :
    (∀ goL rstL skip go i, CounterInvariant Config.params (await goL rstL skip go .awaitGoTest i)) ∧
    (CycleAt (await true true false false .awaitGoTest Input.quiet) ∧
      (await true true false false .awaitGoTest Input.quiet).latches.goL = true) ∧
    (CycleAt (await false true false false .awaitGoTest Input.quiet) ∧
      (await false true false false .awaitGoTest Input.quiet).latches.rstL = true) ∧
    CycleAt (await false true false true .awaitGoTest Input.quiet) ∧
    (await false true false true .awaitGoTest Input.quiet).orch.fsm = .awaitGoTest ∧
    (await false true false true .awaitGoTest Input.quiet).orch.cfgRequireGo = true :=
  ⟨fun _ _ _ _ _ => counters_zero _ rfl rfl rfl (.inl rfl), ⟨cycleAt _ rfl, rfl⟩, ⟨cycleAt _ rfl, rfl⟩, cycleAt _ rfl, rfl, rfl⟩

/-- RESET; a frame; a tick without a frame; neither. -/
theorem witness_TestingTransitions :
    (∀ pending rstL i, CounterInvariant Config.params (test pending rstL i)) ∧
    (CycleAt (test true true Input.quiet) ∧ (test true true Input.quiet).latches.rstL = true) ∧
    (CycleAt (test true false Input.quiet) ∧ (test true false Input.quiet).store.pending = true) ∧
    (CycleAt (test false false { Input.quiet with tick := true }) ∧
      (sample (test false false { Input.quiet with tick := true })).tick = true) ∧
    CycleAt (test false false Input.quiet) ∧ (test false false Input.quiet).orch.fsm = .testing ∧
    (test false false Input.quiet).store.pending = false ∧ (sample (test false false Input.quiet)).tick = false :=
  ⟨fun _ _ _ => counters_zero _ rfl rfl rfl (.inl rfl), ⟨cycleAt _ rfl, rfl⟩, ⟨cycleAt _ rfl, rfl⟩, ⟨cycleAt _ rfl, rfl⟩, cycleAt _ rfl, rfl, rfl, rfl⟩

/-- Without START and with it (F31, F32). -/
theorem witness_UnusedStateGoesToIdle :
    (CycleAt (inState .unused) ∧ (inState .unused).orch.fsm = .unused ∧ portCommand (inState .unused) = none) ∧
    CycleAt (withSample (inState .unused) (port 0x3C)) ∧
    startAccepted (portCommand (withSample (inState .unused) (port 0x3C))) (withSample (inState .unused) (port 0x3C)) :=
  ⟨⟨cycleAt _ rfl, rfl, rfl⟩, cycleAt _ rfl, true, true, rfl, fun _ => rfl⟩

/-! #### The FSM as a whole -/

/-- START in `DONE`, and the end of a session. -/
theorem witness_SequenceOfStates :
    (CycleAt (withSample (inState .done) (port 0x2C)) ∧
      startAccepted (portCommand (withSample (inState .done) (port 0x2C))) (withSample (inState .done) (port 0x2C))) ∧
    CycleAt (test true true Input.quiet) ∧ portCommand (test true true Input.quiet) = none ∧
    (after (test true true Input.quiet)).orch.fsm = .done :=
  ⟨⟨cycleAt _ rfl, false, true, rfl, fun _ => rfl⟩, cycleAt _ rfl, rfl, rfl⟩

theorem witness_ConfigurationLoadedByStart :
    (CycleAt (withSample base (port 0x3C)) ∧
      accepted (portCommand (withSample base (port 0x3C))) (withSample base (port 0x3C)) (.start true true)) ∧
    CycleAt base ∧ portCommand base = none :=
  ⟨⟨cycleAt _ rfl, rfl, fun _ => rfl⟩, cycleAt _ rfl, rfl⟩

/-- A pulse of `flash_start`, of `attempt_fail` and of `view_valid`. -/
theorem witness_PulsesAndViewFrame :
    (CycleAt (await true false false false .awaitGo Input.quiet) ∧
      (after (await true false false false .awaitGo Input.quiet)).out.flashStart = true) ∧
    (CycleAt (burn .burnFlash 1 true (flashed false)) ∧
      (after (burn .burnFlash 1 true (flashed false))).out.attemptFail = true) ∧
    CycleAt (test true false Input.quiet) ∧ CounterInvariant Config.params (test true false Input.quiet) ∧
    (after (test true false Input.quiet)).out.viewValid = true :=
  ⟨⟨cycleAt _ rfl, rfl⟩, ⟨cycleAt _ rfl, rfl⟩, cycleAt _ rfl, counters_zero _ rfl rfl rfl (.inl rfl), rfl⟩

/-- The cycle of `s` leaves the BURN states. -/
abbrev LeavesBurn (s : State) : Prop :=
  CycleAt s ∧ (s.orch.fsm = .burnFlash ∨ s.orch.fsm = .burnDelay) ∧
  (after s).orch.fsm ≠ .burnFlash ∧ (after s).orch.fsm ≠ .burnDelay

/-- Each exit: success, abort from either BURN state, and retry exhaustion (for every legal parameter). -/
theorem witness_BurnExitsReleaseFlasher :
    LeavesBurn (burn .burnFlash 1 false (flashed true)) ∧ LeavesBurn (burn .burnFlash 1 true (flashed true)) ∧
    LeavesBurn (burn .burnDelay 1 true Input.quiet) ∧ LeavesBurn (burn .burnFlash 3 false (flashed false)) := by
  have hmax : ¬ (burn .burnFlash 3 false (flashed false)).orch.attempts.toNat < Config.params.maxFlashAttempts :=
    Nat.not_lt.2 Laws.maxFlashAttempts_le
  have hdone : (after (burn .burnFlash 3 false (flashed false))).orch.fsm = .done := by
    show (fsmBurnFlash Config.params (flashed false) (burn .burnFlash 3 false (flashed false))).orch.fsm = .done
    simp only [fsmBurnFlash, if_neg hmax]
    rfl
  exact ⟨⟨cycleAt _ rfl, .inl rfl, nofun, nofun⟩, ⟨cycleAt _ rfl, .inl rfl, nofun, nofun⟩,
    ⟨cycleAt _ rfl, .inr rfl, nofun, nofun⟩, cycleAt _ rfl, .inl rfl, by rw [hdone]; nofun, by rw [hdone]; nofun⟩

theorem witness_SamplerEnabledAfterRelease :
    (SessionInvariant (await true false true false .awaitGo Input.quiet) ∧
      CycleAt (await true false true false .awaitGo Input.quiet) ∧
      (await true false true false .awaitGo Input.quiet).orch.fsm ≠ .testing ∧
      (after (await true false true false .awaitGo Input.quiet)).orch.fsm = .testing) ∧
    SessionInvariant (burn .burnFlash 1 false (flashed true)) ∧ CycleAt (burn .burnFlash 1 false (flashed true)) ∧
    pinSel (burn .burnFlash 1 false (flashed true)) = 0b01 :=
  ⟨⟨by decide, cycleAt _ rfl, by decide, rfl⟩, by decide, cycleAt _ rfl, by decide⟩

/-- The state after reset in which START 1,0 comes next. -/
def beforeStart : State := { State.reset with env := { stim := [port 0x1C], draws := 0 } }

theorem witness_Reachable : Reachable (after beforeStart) := .step beforeStart _ (.reset _) rfl

theorem witness_SkipBurnNeverFlashes :
    (CycleAt (await true true true false .awaitGo Input.quiet) ∧
      (await true true true false .awaitGo Input.quiet).orch.fsm = .awaitGo ∧
      (await true true true false .awaitGo Input.quiet).orch.cfgSkipBurn = true ∧
      (await true true true false .awaitGo Input.quiet).latches.goL = true) ∧
    Reachable (after beforeStart) ∧ (after beforeStart).orch.cfgSkipBurn = true :=
  ⟨⟨cycleAt _ rfl, rfl, rfl, rfl⟩, witness_Reachable, rfl⟩

theorem witness_SessionInvariantKept :
    SessionInvariant (test true false Input.quiet) ∧ (∃ t, step (test true false Input.quiet) = .next t) ∧
    ∃ t, exec .stat (test true false Input.quiet) = .next t :=
  ⟨by decide, ⟨_, rfl⟩, _, rfl⟩

theorem witness_CounterInvariantKept :
    CounterInvariant Config.params (burn .burnFlash 1 false Input.quiet) ∧
    (∃ t, step (burn .burnFlash 1 false Input.quiet) = .next t) ∧
    ∃ t, exec .goRise (burn .burnFlash 1 false Input.quiet) = .next t :=
  ⟨counters_zero _ rfl rfl rfl (.inr ⟨rfl, nofun⟩), ⟨_, rfl⟩, _, rfl⟩

/-- One attempt of a session, and the failure of an attempt that is the last for every legal parameter. -/
theorem witness_AttemptsPerSessionBounded :
    SessionRun 1 (after (await true false false false .awaitGo Input.quiet)) ∧
    (burn .burnFlash 3 false (flashed false)).orch.fsm = .burnFlash ∧
    Config.params.maxFlashAttempts ≤ (burn .burnFlash 3 false (flashed false)).orch.attempts.toNat ∧
    (sample (burn .burnFlash 3 false (flashed false))).rstN = true ∧
    (sample (burn .burnFlash 3 false (flashed false))).flashDone = true ∧
    (sample (burn .burnFlash 3 false (flashed false))).flashOk = false ∧
    (burn .burnFlash 3 false (flashed false)).latches.rstL = false ∧
    ∃ t, step (burn .burnFlash 3 false (flashed false)) = .next t :=
  ⟨.step 0 (await true false false false .awaitGo Input.quiet) _ (.begin _ rfl rfl) rfl rfl rfl, rfl,
    Laws.maxFlashAttempts_le, rfl, rfl, rfl, rfl, _, rfl⟩

theorem witness_NoTimeoutOnAttempt :
    (burn .burnFlash 1 true Input.quiet).orch.fsm = .burnFlash ∧
    1 ≤ (burn .burnFlash 1 true Input.quiet).env.stim.length ∧
    (∀ i ∈ (burn .burnFlash 1 true Input.quiet).env.stim.take 1, i.rstN = true ∧ i.flashDone = false) ∧
    (burn .burnFlash 1 true Input.quiet).latches.rstL = true := by decide

theorem witness_WatchdogInformsOnly : ∃ t, step (test false false { Input.quiet with tick := true }) = .next t :=
  ⟨_, rfl⟩

theorem witness_InputsReadOnlyWhereUsed :
    (inState .testing).orch.fsm ≠ .burnFlash ∧ Input.quiet.flashDone = false ∧ (inState .done).orch.fsm = .done := by
  decide

/-! #### Runs -/

/-- A capture in the first of two cycles. -/
theorem witness_PendingTellsOfNewFrame :
    let s0 := withSample (showing 0b00100 true Input.quiet) Input.quiet
    let run : Nat → State := fun k => if k = 0 then s0 else after s0
    (run 0).store.pending = false ∧
    (∀ k, k < 1 → (sample (run k)).rstN = true ∧ step (run k) = .next (run (k + 1))) ∧
    captures (detectEvents (run 0)) (run 0) = true := by
  refine ⟨rfl, ?_, rfl⟩
  intro k hk
  obtain rfl : k = 0 := by omega
  exact ⟨rfl, rfl⟩

/-- One bit, then the LATCH edge. -/
theorem witness_FrameIsMsbFirst :
    let s : State := { base with sampler := { acc := 0, en := true } }
    ∃ t u, Clocked [true] s t ∧ s.sampler.acc = 0 ∧ [true].length ≤ 32 ∧
      Safety.Cycle (eventsDuring .latchRise t) (commandDuring .latchRise t) t u ∧ t.sampler.en = true ∧
      (eventsDuring .latchRise t).latchRise = true ∧ (eventsDuring .latchRise t).clkRise = false :=
  ⟨_, _, .clock _ _ [] _ _ _ (.inl ⟨.clkRise true, rfl, rfl, rfl⟩) rfl rfl rfl (.refl _), rfl, by decide,
    .inl ⟨.latchRise, rfl, rfl, rfl⟩, rfl, rfl, rfl⟩

/-- A GO edge and a RESET edge, both sampled in the first cycle. -/
theorem witness_PinEdgeLatency :
    let s0 : State := { State.reset with
      sync := { State.reset.sync with arm := 1, rstS0 := true }
      env := { stim := [{ Input.quiet with goIn := true }, Input.quiet, Input.quiet], draws := 0 } }
    s0.sync.arm ≠ 0 ∧ (sample s0).rstN = true ∧ (sample s0).goIn = true ∧ s0.sync.goS0 = false ∧
    (sample s0).resetIn = false ∧ s0.sync.rstS0 = true ∧
    ∃ s1 s2 s3, step s0 = .next s1 ∧ step s1 = .next s2 ∧ step s2 = .next s3 ∧
      (sample s1).rstN = true ∧ (sample s2).rstN = true :=
  ⟨by decide, rfl, rfl, rfl, rfl, rfl, _, _, _, rfl, rfl, rfl, rfl, rfl⟩

theorem witness_WarmUpDetectsNothing :
    let s : State := { State.reset with env :=
      { stim := [{ Input.quiet with rstN := false }, Input.quiet, Input.quiet, Input.quiet], draws := 0 } }
    (sample s).rstN = false ∧
    ∃ s0 s1 s2 s3, step s = .next s0 ∧ step s0 = .next s1 ∧ step s1 = .next s2 ∧ step s2 = .next s3 ∧
      (sample s0).rstN = true ∧ (sample s1).rstN = true ∧ (sample s2).rstN = true :=
  ⟨rfl, _, _, _, _, rfl, rfl, rfl, rfl, rfl, rfl, rfl⟩

theorem witness_RealisedProgramShowsItsEvents :
    let prog : List EventLine := [{ clk := some true }, { latch := true }]
    EventLine.wellFormedProgram prog = true ∧ (∀ x ∈ prog, x.rstN = true) ∧ prog[1]? = some { latch := true } ∧
    ∃ t, Sys2Proof.core.run 1 (preload prog State.reset) = .next t :=
  ⟨by decide, by decide, rfl, _, rfl⟩

end Sys2Proof.Tests
end

section
/-! SUPPORT. Proofs of the statements about the state: the FSM's transition table as one inversion, what every
cycle writes to each part of the state, and from these the invariants of a session and the rules R12 to R38. -/

namespace Sys2Proof.Proofs

open Sys2Proof.Machine Sys2Proof.Safety Sys2Proof.Laws

/-! ### Field rules of the FSM's operations -/

@[simp] theorem pulsesOff_flashStart (o : OutputRegs) : (pulsesOff o).flashStart = false := rfl
@[simp] theorem pulsesOff_viewValid (o : OutputRegs) : (pulsesOff o).viewValid = false := rfl
@[simp] theorem pulsesOff_alive (o : OutputRegs) : (pulsesOff o).alive = false := rfl
@[simp] theorem pulsesOff_silenceWarn (o : OutputRegs) : (pulsesOff o).silenceWarn = false := rfl
@[simp] theorem pulsesOff_attemptFail (o : OutputRegs) : (pulsesOff o).attemptFail = false := rfl

/-- R114: the blink step writes `blink_cnt` and `phase` only. -/
theorem blinked_eq (tick : Bool) (o : Orchestration) :
    ∃ cnt ph, blinked tick o = { o with blinkCnt := cnt, phase := ph } := by
  unfold blinked
  split
  · split
    · exact ⟨_, _, rfl⟩
    · exact ⟨_, _, rfl⟩
  · exact ⟨_, _, rfl⟩

@[simp] theorem blinked_fsm (tick : Bool) (o : Orchestration) : (blinked tick o).fsm = o.fsm := by
  obtain ⟨_, _, h⟩ := blinked_eq tick o
  rw [h]
@[simp] theorem blinked_result (tick : Bool) (o : Orchestration) : (blinked tick o).result = o.result := by
  obtain ⟨_, _, h⟩ := blinked_eq tick o
  rw [h]
@[simp] theorem blinked_attempts (tick : Bool) (o : Orchestration) : (blinked tick o).attempts = o.attempts := by
  obtain ⟨_, _, h⟩ := blinked_eq tick o
  rw [h]
@[simp] theorem blinked_cfgSkipBurn (tick : Bool) (o : Orchestration) :
    (blinked tick o).cfgSkipBurn = o.cfgSkipBurn := by
  obtain ⟨_, _, h⟩ := blinked_eq tick o
  rw [h]
@[simp] theorem blinked_cfgRequireGo (tick : Bool) (o : Orchestration) :
    (blinked tick o).cfgRequireGo = o.cfgRequireGo := by
  obtain ⟨_, _, h⟩ := blinked_eq tick o
  rw [h]

@[simp] theorem startSession_fsm (skip go : Bool) (o : Orchestration) : (startSession skip go o).fsm = .awaitGo := rfl
@[simp] theorem startSession_result (skip go : Bool) (o : Orchestration) :
    (startSession skip go o).result = .noResult := rfl
@[simp] theorem startSession_attempts (skip go : Bool) (o : Orchestration) :
    (startSession skip go o).attempts = 0 := rfl
@[simp] theorem startSession_cfgSkipBurn (skip go : Bool) (o : Orchestration) :
    (startSession skip go o).cfgSkipBurn = skip := rfl
@[simp] theorem startSession_cfgRequireGo (skip go : Bool) (o : Orchestration) :
    (startSession skip go o).cfgRequireGo = go := rfl

/-! ### The transition table of the FSM (R123) -/

/-- The rows of the FSM's transition table, R105 to R113: `FsmRow i s e` says that in the state `s` with the sample
`i` the condition of a row holds and `e` is what that row has the FSM contribute. -/
inductive FsmRow (i : Input) (s : State) : FsmEffect → Prop where
  /-- R105, R112. -/
  | still (hf : s.orch.fsm = .idle ∨ s.orch.fsm = .done) : FsmRow i s (fsmHold s)
  /-- R113. -/
  | unusedToIdle (hf : s.orch.fsm = .unused) : FsmRow i s { fsmHold s with orch := { s.orch with fsm := .idle } }
  /-- R106 with R107. -/
  | goSkipsBurn (hf : s.orch.fsm = .awaitGo) (hgo : s.latches.goL = true) (hskip : s.orch.cfgSkipBurn = true) :
      FsmRow i s (enterTesting { fsmHold s with goClr := true, rstClr := true })
  /-- R106. -/
  | goBurns (hf : s.orch.fsm = .awaitGo) (hgo : s.latches.goL = true) (hskip : s.orch.cfgSkipBurn = false) :
      FsmRow i s (enterBurnFlash { fsmHold s with
        goClr := true, rstClr := true, orch := { s.orch with attempts := 1 } })
  /-- R110. -/
  | goTests (hf : s.orch.fsm = .awaitGoTest) (hgo : s.latches.goL = true) :
      FsmRow i s (enterTesting { fsmHold s with goClr := true, rstClr := true })
  /-- R106, R110: RESET before GO. -/
  | waitAborted (hf : s.orch.fsm = .awaitGo ∨ s.orch.fsm = .awaitGoTest) (hgo : s.latches.goL = false)
      (hrst : s.latches.rstL = true) (hreq : s.orch.cfgRequireGo = false) :
      FsmRow i s (enterDone .aborted { fsmHold s with rstClr := true })
  /-- R106, R110: neither. -/
  | waitBlinks (hf : s.orch.fsm = .awaitGo ∨ s.orch.fsm = .awaitGoTest) (hgo : s.latches.goL = false)
      (hrst : ¬ (s.latches.rstL = true ∧ s.orch.cfgRequireGo = false)) :
      FsmRow i s { fsmHold s with orch := blinked i.tick s.orch }
  /-- R108, R122: no answer of the flasher yet. -/
  | attemptGoesOn (hf : s.orch.fsm = .burnFlash) (hdone : i.flashDone = false) : FsmRow i s (fsmHold s)
  /-- R108: RESET is acted on before the attempt's result. -/
  | attemptAborted (hf : s.orch.fsm = .burnFlash) (hdone : i.flashDone = true) (hrst : s.latches.rstL = true) :
      FsmRow i s (enterDone .aborted { fsmHold s with
        rstClr := true, out := { pulsesOff s.out with attemptFail := !i.flashOk } })
  /-- R108. -/
  | attemptSucceeded (hf : s.orch.fsm = .burnFlash) (hdone : i.flashDone = true) (hrst : s.latches.rstL = false)
      (hok : i.flashOk = true) : FsmRow i s (enterAwaitGoTest (fsmHold s))
  /-- R108: a failure that a further attempt follows. -/
  | attemptFailed (hf : s.orch.fsm = .burnFlash) (hdone : i.flashDone = true) (hrst : s.latches.rstL = false)
      (hok : i.flashOk = false) (hmore : s.orch.attempts.toNat < Config.params.maxFlashAttempts) :
      FsmRow i s (enterBurnDelay { fsmHold s with out := { pulsesOff s.out with attemptFail := true } })
  /-- R108: the failure of the last attempt. -/
  | lastAttemptFailed (hf : s.orch.fsm = .burnFlash) (hdone : i.flashDone = true) (hrst : s.latches.rstL = false)
      (hok : i.flashOk = false) (hlast : ¬ s.orch.attempts.toNat < Config.params.maxFlashAttempts) :
      FsmRow i s (enterDone .flashFail { fsmHold s with out := { pulsesOff s.out with attemptFail := true } })
  /-- R109. -/
  | delayAborted (hf : s.orch.fsm = .burnDelay) (hrst : s.latches.rstL = true) :
      FsmRow i s (enterDone .aborted { fsmHold s with rstClr := true })
  /-- R109: the next attempt. -/
  | delayEnds (hf : s.orch.fsm = .burnDelay) (hrst : s.latches.rstL = false)
      (hend : Config.params.retryDelayTicks = 0 ∨
        (i.tick = true ∧ Config.params.retryDelayTicks ≤ s.orch.dlyCnt.toNat + 1)) :
      FsmRow i s (enterBurnFlash { fsmHold s with orch := { s.orch with attempts := s.orch.attempts + 1 } })
  /-- R109: the delay goes on. -/
  | delayCounts (hf : s.orch.fsm = .burnDelay) (hrst : s.latches.rstL = false)
      (hgoes : ¬ (Config.params.retryDelayTicks = 0 ∨
        (i.tick = true ∧ Config.params.retryDelayTicks ≤ s.orch.dlyCnt.toNat + 1))) :
      FsmRow i s { fsmHold s with orch := { s.orch with dlyCnt :=
        if i.tick = true then s.orch.dlyCnt + 1 else s.orch.dlyCnt } }
  /-- R111: RESET ends the session. -/
  | testingEnds (hf : s.orch.fsm = .testing) (hrst : s.latches.rstL = true) :
      FsmRow i s (enterDone .success { fsmHold s with enWrite := some false, rstClr := true })
  /-- R111: a changed frame is presented. -/
  | frameShown (hf : s.orch.fsm = .testing) (hrst : s.latches.rstL = false) (hpend : s.store.pending = true)
      (hchg : s.store.cur ≠ s.store.last) :
      FsmRow i s { fsmHold s with
        pendClr := true, orch := blinked i.tick { s.orch with wdCnt := 0 }
        out := { pulsesOff s.out with viewValid := true, viewFrame := s.store.cur } }
  /-- R111: an unchanged frame. -/
  | frameRepeated (hf : s.orch.fsm = .testing) (hrst : s.latches.rstL = false) (hpend : s.store.pending = true)
      (hchg : s.store.cur = s.store.last) :
      FsmRow i s { fsmHold s with
        pendClr := true, orch := blinked i.tick { s.orch with wdCnt := 0 }
        out := { pulsesOff s.out with alive := true } }
  /-- R111 with R116: no frame; the watchdog counts. -/
  | noFrame (hf : s.orch.fsm = .testing) (hrst : s.latches.rstL = false) (hpend : s.store.pending = false) :
      FsmRow i s { fsmHold s with
        pendClr := true
        orch := blinked i.tick { s.orch with wdCnt :=
          if i.tick = true then
            (if s.orch.wdCnt.toNat + 1 ≥ Config.params.watchdogTicks then 0 else s.orch.wdCnt + 1)
          else s.orch.wdCnt }
        out := { pulsesOff s.out with silenceWarn :=
          (i.tick && decide (s.orch.wdCnt.toNat + 1 ≥ Config.params.watchdogTicks)) } }

variable {i : Input} {s : State} {e : FsmEffect}

theorem fsmAwaitGo_row (hf : s.orch.fsm = .awaitGo) : FsmRow i s (fsmAwaitGo Config.params i s) := by
  unfold fsmAwaitGo
  cases hgo : s.latches.goL with
  | true =>
    cases hskip : s.orch.cfgSkipBurn with
    | true => exact .goSkipsBurn hf hgo hskip
    | false => exact .goBurns hf hgo hskip
  | false =>
    by_cases hrst : s.latches.rstL = true ∧ s.orch.cfgRequireGo = false
    · simpa [hrst] using FsmRow.waitAborted (i := i) (.inl hf) hgo hrst.1 hrst.2
    · simpa [hrst, blinkStep_eq] using FsmRow.waitBlinks (i := i) (.inl hf) hgo hrst

theorem fsmAwaitGoTest_row (hf : s.orch.fsm = .awaitGoTest) : FsmRow i s (fsmAwaitGoTest Config.params i s) := by
  unfold fsmAwaitGoTest
  cases hgo : s.latches.goL with
  | true => exact .goTests hf hgo
  | false =>
    by_cases hrst : s.latches.rstL = true ∧ s.orch.cfgRequireGo = false
    · simpa [hrst] using FsmRow.waitAborted (i := i) (.inr hf) hgo hrst.1 hrst.2
    · simpa [hrst, blinkStep_eq] using FsmRow.waitBlinks (i := i) (.inr hf) hgo hrst

theorem fsmBurnFlash_row (hf : s.orch.fsm = .burnFlash) : FsmRow i s (fsmBurnFlash Config.params i s) := by
  unfold fsmBurnFlash
  cases hdone : i.flashDone with
  | false => exact .attemptGoesOn hf hdone
  | true =>
    cases hrst : s.latches.rstL with
    | true => exact .attemptAborted hf hdone hrst
    | false =>
      cases hok : i.flashOk with
      | true => exact .attemptSucceeded hf hdone hrst hok
      | false =>
        by_cases hmore : s.orch.attempts.toNat < Config.params.maxFlashAttempts
        · simpa [hmore] using FsmRow.attemptFailed hf hdone hrst hok hmore
        · simpa [hmore] using FsmRow.lastAttemptFailed hf hdone hrst hok hmore

theorem fsmBurnDelay_row (hf : s.orch.fsm = .burnDelay) : FsmRow i s (fsmBurnDelay Config.params i s) := by
  unfold fsmBurnDelay
  cases hrst : s.latches.rstL with
  | true => exact .delayAborted hf hrst
  | false =>
    have hcond : (decide (Config.params.retryDelayTicks = 0) ||
        (i.tick && tickReaches s.orch.dlyCnt Config.params.retryDelayTicks)) = true ↔
        Config.params.retryDelayTicks = 0 ∨
          (i.tick = true ∧ Config.params.retryDelayTicks ≤ s.orch.dlyCnt.toNat + 1) := by
      simp [tickReaches_eq_true]
    by_cases hend : Config.params.retryDelayTicks = 0 ∨
        (i.tick = true ∧ Config.params.retryDelayTicks ≤ s.orch.dlyCnt.toNat + 1)
    · simpa [hcond.2 hend] using FsmRow.delayEnds hf hrst hend
    · have row := FsmRow.delayCounts hf hrst hend
      simp only [Bool.false_eq_true, if_false, if_neg (mt hcond.1 hend)]
      cases htick : i.tick with
      | true => simpa [htick] using row
      | false => simp only [htick] at row; exact row

theorem fsmTesting_row (hf : s.orch.fsm = .testing) : FsmRow i s (fsmTesting Config.params i s) := by
  unfold fsmTesting
  cases hrst : s.latches.rstL with
  | true => exact .testingEnds hf hrst
  | false =>
    cases hpend : s.store.pending with
    | true =>
      by_cases hchg : s.store.cur = s.store.last
      · simpa [blinkStep_eq, changed, hchg] using FsmRow.frameRepeated (i := i) hf hrst hpend hchg
      · simpa [blinkStep_eq, changed, hchg] using FsmRow.frameShown (i := i) hf hrst hpend hchg
    | false => simpa [blinkStep_eq, watchdogStep_eq] using FsmRow.noFrame (i := i) hf hrst hpend

/-- R123: everything the FSM can do in a cycle. -/
theorem fsmEffect_row (i : Input) (s : State) : FsmRow i s (fsmEffect Config.params i s) := by
  unfold fsmEffect
  cases hf : s.orch.fsm with
  | idle => exact .still (.inl hf)
  | awaitGo => exact fsmAwaitGo_row hf
  | burnFlash => exact fsmBurnFlash_row hf
  | burnDelay => exact fsmBurnDelay_row hf
  | awaitGoTest => exact fsmAwaitGoTest_row hf
  | testing => exact fsmTesting_row hf
  | done => exact .still (.inr hf)
  | unused => exact .unusedToIdle hf

/-! ### What the FSM's rows keep and pulse -/

/-- R29: no row writes the configuration. -/
theorem FsmRow.config_eq (h : FsmRow i s e) :
    e.orch.cfgSkipBurn = s.orch.cfgSkipBurn ∧ e.orch.cfgRequireGo = s.orch.cfgRequireGo := by
  cases h <;> simp

/-- R33: each output register by the rule that sets it: `flash_start` R104, `attempt_fail` R108, `view_valid`, `alive`
and `view_frame` R111, `silence_warn` R116. -/
theorem FsmRow.out_eq (h : FsmRow i s e) :
    e.out =
      { flashStart := decide (s.orch.fsm ≠ .burnFlash ∧ e.orch.fsm = .burnFlash)
        viewValid := decide (s.orch.fsm = .testing ∧ s.latches.rstL = false ∧ s.store.pending = true ∧
          s.store.cur ≠ s.store.last)
        alive := decide (s.orch.fsm = .testing ∧ s.latches.rstL = false ∧ s.store.pending = true ∧
          s.store.cur = s.store.last)
        silenceWarn := decide (s.orch.fsm = .testing ∧ s.latches.rstL = false ∧ s.store.pending = false ∧
          i.tick = true ∧ s.orch.wdCnt.toNat + 1 ≥ Config.params.watchdogTicks)
        attemptFail := decide (s.orch.fsm = .burnFlash ∧ i.flashDone = true ∧ i.flashOk = false)
        viewFrame := if s.orch.fsm = .testing ∧ s.latches.rstL = false ∧ s.store.pending = true ∧
          s.store.cur ≠ s.store.last then s.store.cur else s.out.viewFrame } := by
  cases h with
  | attemptAborted hf hdone => simp [hf, hdone, pulsesOff]
  | attemptFailed hf hdone _ hok => simp [hf, hdone, hok, pulsesOff]
  | lastAttemptFailed hf hdone _ hok => simp [hf, hdone, hok, pulsesOff]
  | frameShown hf hrst hpend hchg => simp [hf, hrst, hpend, hchg, pulsesOff]
  | frameRepeated hf hrst hpend hchg => simp [hf, hrst, hpend, hchg, pulsesOff]
  | noFrame hf hrst hpend => simp [hf, hrst, hpend, pulsesOff]
  | still hf => rcases hf with hf | hf <;> simp [hf, pulsesOff]
  | waitAborted hf => rcases hf with hf | hf <;> simp [hf, pulsesOff]
  | waitBlinks hf => rcases hf with hf | hf <;> simp [hf, pulsesOff]
  | _ => simp_all [pulsesOff]

theorem fsmEffect_fsm_inactive (i : Input) (ha : sessionActive s = false) :
    (fsmEffect Config.params i s).orch.fsm = .idle ∨ (fsmEffect Config.params i s).orch.fsm = .done := by
  rw [fsmEffect_inactive _ _ _ ha]
  rcases (sessionActive_eq_false s).1 ha with hf | hf | hf <;> simp [hf]

/-! ### What a cycle writes to each part of the state -/

variable {ev : Events} {c : Option Instr} {t : State}

theorem startAccepted_iff : startAccepted c s ↔ ∃ skip go, c = some (.start skip go) ∧ sessionActive s = false := by
  simp [startAccepted, accepted, Instr.mutating]

/-- R132: no mutating command is accepted inside a session. -/
theorem not_accepted_of_active (ha : sessionActive s = true) {j : Instr} (hm : j.mutating = true) :
    ¬ accepted c s j :=
  fun ⟨_, h⟩ => by simpa [ha] using h hm

theorem not_startAccepted_of_active (ha : sessionActive s = true) : ¬ startAccepted c s :=
  fun ⟨_, _, h⟩ => not_accepted_of_active ha rfl h

theorem cycle_of_step (hr : (sample s).rstN = true) (h : step s = .next t) :
    Safety.Cycle (detectEvents s) (portCommand s) s t :=
  .inr ⟨hr, h, rfl, rfl⟩

theorem cycle_of_exec {j : Instr} (h : exec j s = .next t) :
    Safety.Cycle (eventsDuring j s) (commandDuring j s) s t :=
  .inl ⟨j, h, rfl, rfl⟩

section
variable (h : Safety.Cycle ev c s t)
include h

theorem sync_of_cycle : t.sync = nextSync (sample s) s.sync := by
  obtain ⟨eff, rfl, -⟩ := cycle_inversion ev c s t h
  rfl

theorem out_of_cycle : t.out = (fsmEffect Config.params (sample s) s).out := by
  obtain ⟨eff, rfl, -⟩ := cycle_inversion ev c s t h
  rfl

/-- R125: an accepted START writes the FSM's registers in place of the FSM. -/
theorem orch_of_start {skip go : Bool} (hs : accepted c s (.start skip go)) :
    t.orch = startSession skip go s.orch := by
  obtain ⟨rfl, ho⟩ := hs
  have ha : sessionActive s = false := ho rfl
  obtain ⟨eff, rfl, ⟨j, hj, -, rfl⟩ | ⟨hn, -⟩⟩ := cycle_inversion ev _ s t h
  · cases hj
    simp [commandEffect, startEffect, ifOwner, ha]
  · simp at hn

/-- R36, outside a session: which command makes the port clear `pending`, write the enable or write the FSM's
registers. -/
theorem port_of_cycle_inactive (ha : sessionActive s = false) :
    ∃ eff, t = cycle Config.params ev eff s ∧
      (eff.pendClr = true ↔ c = some .newpkt) ∧
      (eff.enWrite = some true ↔ c = some .sen) ∧
      (eff.enWrite = some false ↔ c = some .sdis ∨ ∃ skip go, c = some (.start skip go)) ∧
      (eff.orchWrite = none ∨ ∃ skip go, c = some (.start skip go)) := by
  rcases cycle_cases ev c s t h with ⟨r, rfl, hno⟩ | ⟨-, j, eff, rfl, rfl, heff⟩
  · have hno : ∀ j, c = some j → j.mutating = false := by simpa [ha] using hno
    have hc (j : Instr) (hm : j.mutating = true) : c ≠ some j := fun hj => by simp [hno j hj] at hm
    exact ⟨_, rfl, by simp [hc .newpkt rfl, hc .sen rfl, hc .sdis rfl, hc (.start _ _) rfl]⟩
  · refine ⟨eff, rfl, ?_⟩
    rcases heff with ⟨rfl, rfl⟩ | ⟨rfl, rfl⟩ | ⟨rfl, rfl⟩ | ⟨rfl, rfl⟩ | ⟨rfl, rfl⟩ | ⟨skip, go, rfl, rfl⟩ <;>
      simp [reply]

/-- R36: in every cycle without an accepted START the FSM writes its registers. -/
theorem orch_of_not_start (hs : ¬ startAccepted c s) :
    t.orch = (fsmEffect Config.params (sample s) s).orch := by
  cases ha : sessionActive s with
  | true =>
    obtain ⟨r, rfl⟩ := cycle_inside_session ev c s t h ha
    rfl
  | false =>
    obtain ⟨eff, rfl, -, -, -, horch | ⟨skip, go, rfl⟩⟩ := port_of_cycle_inactive h ha
    · simp [horch]
    · exact absurd (startAccepted_iff.2 ⟨skip, go, rfl, ha⟩) hs

/-- R105, R112, R113, R125: a cycle outside a session ends in `IDLE` or `DONE`, or starts a session. -/
theorem fsm_of_cycle_inactive (ha : sessionActive s = false) :
    t.orch.fsm = .awaitGo ∨ t.orch.fsm = .idle ∨ t.orch.fsm = .done := by
  by_cases hs : startAccepted c s
  · obtain ⟨skip, go, hacc⟩ := hs
    exact .inl (by rw [orch_of_start h hacc, startSession_fsm])
  · rw [orch_of_not_start h hs]
    exact .inr (fsmEffect_fsm_inactive _ ha)

/-- R36, inside a session: the FSM alone writes the enable. -/
theorem en_of_cycle_active (ha : sessionActive s = true) :
    t.sampler.en = (fsmEffect Config.params (sample s) s).enWrite.getD s.sampler.en := by
  obtain ⟨r, rfl⟩ := cycle_inside_session ev c s t h ha
  rfl

/-- R36, outside a session: SEN, SDIS and START alone write the enable. -/
theorem en_of_cycle_inactive (ha : sessionActive s = false) :
    t.sampler.en = true ↔
      c = some .sen ∨
        (s.sampler.en = true ∧ ¬ (c = some .sdis ∨ ∃ skip go, c = some (.start skip go))) := by
  have hf : (fsmEffect Config.params (sample s) s).enWrite = none := by rw [fsmEffect_inactive _ _ _ ha]; rfl
  obtain ⟨eff, rfl, -, hset, hclr, -⟩ := port_of_cycle_inactive h ha
  rw [cycle_en, nextEn, hf, ← hset, ← hclr]
  rcases eff.enWrite with _ | _ | _ <;> simp

/-- R45 for `pending`: a capture wins over a clear of the same cycle. -/
theorem pending_of_cycle :
    t.store.pending = true ↔ captures ev s = true ∨ (s.store.pending = true ∧ ¬ PendClr c s) := by
  cases ha : sessionActive s with
  | true =>
    obtain ⟨r, rfl⟩ := cycle_inside_session ev c s t h ha
    have hclr : (fsmEffect Config.params (sample s) s).pendClr = true ↔ PendClr c s := by
      simp [PendClr, not_accepted_of_active ha (j := .newpkt) rfl, (fsmEffect_writes s (sample s) ha).1]
    simp [nextStore, mergeFlag_eq_true, captured_isSome, ← hclr]
  | false =>
    have hf : (fsmEffect Config.params (sample s) s).pendClr = false := by rw [fsmEffect_inactive _ _ _ ha]; rfl
    have hclr : PendClr c s ↔ c = some .newpkt := by
      rcases (sessionActive_eq_false s).1 ha with hs | hs | hs <;> simp [PendClr, accepted, ha, hs]
    obtain ⟨eff, rfl, hport, -⟩ := port_of_cycle_inactive h ha
    simp [nextStore, mergeFlag_eq_true, captured_isSome, hf, hclr, ← hport]

end

/-! ### The statements about single cycles -/

/-- Settles O12: the synchronizers' part of a cycle depends on nothing that runs in it. -/
theorem synchronizersShiftEveryCycle : Obligations.SynchronizersShiftEveryCycle := by
  intro ev c s t h
  rw [sync_of_cycle h]
  rfl

/-- Settles O11: the cases of `fsm` are those of the rule. -/
theorem derivedOutputs : Obligations.DerivedOutputs := by
  intro p s
  have hflash : flashEn s = decide (s.orch.fsm = .burnFlash ∨ s.orch.fsm = .burnDelay) := by
    rw [Bool.eq_iff_iff, flashEn_eq_true, decide_eq_true_iff]
  have hactive : sessionActive s = decide (s.orch.fsm = .awaitGo ∨ s.orch.fsm = .burnFlash ∨
      s.orch.fsm = .burnDelay ∨ s.orch.fsm = .awaitGoTest ∨ s.orch.fsm = .testing) := by
    rw [Bool.eq_iff_iff, sessionActive_eq_true, decide_eq_true_iff]
  have hled : led p s =
      if s.orch.fsm = .awaitGo ∨ s.orch.fsm = .awaitGoTest then (if s.orch.phase then p.patAwait1 else p.patAwait0)
      else if s.orch.fsm = .testing then (if s.orch.phase then p.patTest1 else p.patTest0) else 0x00 := by
    cases hf : s.orch.fsm <;> simp [led, hf]
  exact ⟨hflash, rfl, rfl, hled, hactive, rfl, rfl⟩

/-- Settles O43: START writes the two bits in place of the FSM, and no row of the FSM writes them. -/
theorem configurationLoadedByStart : Obligations.ConfigurationLoadedByStart := by
  refine ⟨fun ev c s t h => ⟨fun skip go hs => ?_, fun hs => ?_⟩, rfl, rfl⟩
  · simp [orch_of_start h hs]
  · rw [orch_of_not_start h hs]
    exact (fsmEffect_row (sample s) s).config_eq

/-- Settles O44. In the cycle of an accepted START, which is outside a session, the FSM sets no pulse. -/
theorem pulsesAndViewFrame : Obligations.PulsesAndViewFrame := by
  refine ⟨fun ev c s t h => ?_, rfl⟩
  have hout := (fsmEffect_row (sample s) s).out_eq
  have hentry : (fsmEffect Config.params (sample s) s).orch.fsm = .burnFlash ↔ t.orch.fsm = .burnFlash := by
    cases ha : sessionActive s with
    | true => rw [orch_of_not_start h (not_startAccepted_of_active ha)]
    | false =>
      rcases fsmEffect_fsm_inactive (sample s) ha with hf | hf <;>
        rcases fsm_of_cycle_inactive h ha with ht | ht | ht <;> simp [hf, ht]
  rw [out_of_cycle h, hout]
  simp [hentry]

/-- Settles O16: inside a session the FSM is the one writer, outside it the command port, and no cycle outside a session
ends in `TESTING`. -/
theorem enableHasOneWriter : Obligations.EnableHasOneWriter := by
  intro ev c s t h
  cases ha : sessionActive s with
  | true =>
    have hs := not_startAccepted_of_active (c := c) ha
    obtain ⟨-, -, -, hwrite⟩ := fsmEffect_writes s (sample s) ha
    rw [en_of_cycle_active h ha, hwrite, ← orch_of_not_start h hs]
    simp only [hs, not_accepted_of_active ha (j := .sen) rfl, not_accepted_of_active ha (j := .sdis) rfl]
    split_ifs with henter hleave
    · simp [henter]
    · simp [hleave]
    · simp [henter, hleave]
  | false =>
    have hns : s.orch.fsm ≠ .testing := by
      rcases (sessionActive_eq_false s).1 ha with hf | hf | hf <;> simp [hf]
    have hnt : t.orch.fsm ≠ .testing := by
      rcases fsm_of_cycle_inactive h ha with ht | ht | ht <;> simp [ht]
    rw [en_of_cycle_inactive h ha]
    simp [accepted, startAccepted_iff, ha, hns, hnt]

/-! ### The session invariant, part by part -/

/-- The part of the session invariant about `fsm`, `result`, `attempts` and the configuration (R27, R28, R69,
R107). -/
def RegistersLegal (o : Orchestration) : Prop :=
  o.fsm ≠ .unused ∧
  (o.result = .noResult ↔ o.fsm ≠ .done) ∧
  (o.cfgSkipBurn = true → o.fsm ≠ .burnFlash ∧ o.fsm ≠ .burnDelay ∧ o.fsm ≠ .awaitGoTest ∧ o.attempts = 0) ∧
  (o.fsm = .idle ∨ o.fsm = .awaitGo → o.attempts = 0)

/-- The part about the enable (R36, R37). -/
def EnableLegal (en : Bool) (f : FsmState) : Prop :=
  (en = true → f = .idle ∨ f = .testing ∨ f = .done) ∧ (f = .testing → en = true)

/-- The part about the response registers (R66, R67). -/
def ResponseLegal (r : Response) : Prop :=
  r.err ≠ .unused ∧ (r.valid = false → r.err = .ok) ∧ (r.valid = false ∨ r.err ≠ .ok → r.data = 0)

/-- The part about the pulse registers (R33). -/
def PulsesLegal (o : OutputRegs) (f : FsmState) : Prop :=
  (o.flashStart = true → f = .burnFlash) ∧
  (o.attemptFail = true → f = .burnDelay ∨ f = .done) ∧
  (o.viewValid = true ∨ o.alive = true ∨ o.silenceWarn = true → f = .testing) ∧
  ¬ (o.viewValid = true ∧ o.alive = true) ∧
  ¬ (o.viewValid = true ∧ o.silenceWarn = true) ∧
  ¬ (o.alive = true ∧ o.silenceWarn = true)

theorem sessionInvariant_iff (s : State) :
    SessionInvariant s ↔
      RegistersLegal s.orch ∧ EnableLegal s.sampler.en s.orch.fsm ∧ ResponseLegal s.rsp ∧
        PulsesLegal s.out s.orch.fsm := by
  constructor
  · rintro ⟨hused, hen, htest, hres, hskip, hatt, hresp₁, hresp₂, hresp₃, hpulses⟩
    exact ⟨⟨hused, hres, hskip, hatt⟩, ⟨hen, htest⟩, ⟨hresp₁, hresp₂, hresp₃⟩, hpulses⟩
  · rintro ⟨⟨hused, hres, hskip, hatt⟩, ⟨hen, htest⟩, ⟨hresp₁, hresp₂, hresp₃⟩, hpulses⟩
    exact ⟨hused, hen, htest, hres, hskip, hatt, hresp₁, hresp₂, hresp₃, hpulses⟩

theorem startSession_registersLegal (skip go : Bool) (o : Orchestration) :
    RegistersLegal (startSession skip go o) := by
  simp [RegistersLegal]

theorem FsmRow.registersLegal (h : FsmRow i s e) (hs : RegistersLegal s.orch) : RegistersLegal e.orch := by
  obtain ⟨hused, hres, hskip, hatt⟩ := hs
  cases h with
  | still hf => exact ⟨hused, hres, hskip, hatt⟩
  | waitBlinks hf => rcases hf with hf | hf <;> simp_all [RegistersLegal]
  | waitAborted hf => rcases hf with hf | hf <;> simp_all [RegistersLegal]
  | _ => simp_all [RegistersLegal]

/-- R33: a pulse stands in the state that the row which sets it leads to. -/
theorem FsmRow.pulsesLegal (h : FsmRow i s e) : PulsesLegal e.out e.orch.fsm := by
  cases h <;> simp_all [PulsesLegal]

theorem pulsesOff_legal (o : OutputRegs) (f : FsmState) : PulsesLegal (pulsesOff o) f := by
  simp [PulsesLegal]

theorem commandEffect_responseLegal {j : Instr} (hj : j.isCommand = true) :
    ResponseLegal (commandEffect Config.params j s).rsp := by
  rw [commandEffect_rsp j s hj]
  split <;> simp [ResponseLegal]

theorem portEffect_responseLegal : ResponseLegal (portEffect Config.params s).rsp := by
  rw [portEffect_eq]
  cases hp : portCommand s with
  | some j => exact commandEffect_responseLegal (portCommand_isCommand s j hp)
  | none => cases (sample s).cmdValid <;> simp [ResponseLegal, raiseCmdError, noCommand]

section
variable (h : Safety.Cycle ev c s t)
include h

theorem responseLegal_of_cycle : ResponseLegal t.rsp := by
  rcases h with ⟨j, h, -, -⟩ | ⟨hr, h, -, -⟩
  · rw [exec_eq_cycle] at h
    cases h
    cases hj : j.isCommand with
    | true => simpa [effectDuring, hj] using commandEffect_responseLegal hj
    | false => simpa [effectDuring, hj] using portEffect_responseLegal
  · rw [step_eq_eventCycle s hr] at h
    cases h
    exact portEffect_responseLegal

theorem registersLegal_of_cycle (hs : RegistersLegal s.orch) : RegistersLegal t.orch := by
  by_cases hstart : startAccepted c s
  · obtain ⟨skip, go, hacc⟩ := hstart
    rw [orch_of_start h hacc]
    exact startSession_registersLegal _ _ _
  · rw [orch_of_not_start h hstart]
    exact (fsmEffect_row _ s).registersLegal hs

theorem pulsesLegal_of_cycle : PulsesLegal t.out t.orch.fsm := by
  rw [out_of_cycle h]
  by_cases hstart : startAccepted c s
  · obtain ⟨skip, go, hacc⟩ := hstart
    rw [fsmEffect_inactive _ _ _ (hacc.2 rfl)]
    exact pulsesOff_legal _ _
  · rw [orch_of_not_start h hstart]
    exact (fsmEffect_row _ s).pulsesLegal

end

/-- R111, R112: `TESTING` is left to `DONE` only, and by a RESET. -/
theorem FsmRow.testing_next (h : FsmRow i s e) (hf : s.orch.fsm = .testing) :
    e.orch.fsm = if s.latches.rstL = true then .done else .testing := by
  cases h <;> simp_all

/-- R37: inside a session the enable is 1 in `TESTING` and in no other state. -/
theorem enableLegal_of_cycle_active (h : Safety.Cycle ev c s t) (ha : sessionActive s = true)
    (hs : EnableLegal s.sampler.en s.orch.fsm) : EnableLegal t.sampler.en t.orch.fsm := by
  obtain ⟨hen, htest⟩ := hs
  have hsen : ¬ accepted c s .sen := not_accepted_of_active ha rfl
  have hsdis : ¬ accepted c s .sdis := not_accepted_of_active ha rfl
  have hstart := not_startAccepted_of_active (c := c) ha
  have hwriter := enableHasOneWriter ev c s t h
  have hnext : s.orch.fsm = .testing → t.orch.fsm = if s.latches.rstL = true then .done else .testing := by
    rw [orch_of_not_start h hstart]
    exact (fsmEffect_row (sample s) s).testing_next
  refine ⟨fun ht => ?_, fun ht => ?_⟩
  · rcases hwriter.1 ht with hacc | ⟨-, hentry⟩ | ⟨hold, -⟩
    · exact absurd hacc hsen
    · exact .inr (.inl hentry)
    · have hf : s.orch.fsm = .testing := by
        rcases hen hold with hf | hf | hf <;> simp_all [sessionActive]
      rw [hnext hf]
      split <;> simp
  · by_cases hf : s.orch.fsm = .testing
    · have hrst : ¬ s.latches.rstL = true := fun hrst => by simp [hnext hf, hrst] at ht
      exact hwriter.2 (.inr (.inr ⟨htest hf, hsdis, hstart, fun hl => hrst hl.2⟩))
    · exact hwriter.2 (.inr (.inl ⟨hf, ht⟩))

/-- R37: outside a session the enable may be 1, and START clears it. -/
theorem enableLegal_of_cycle_inactive (h : Safety.Cycle ev c s t) (ha : sessionActive s = false) :
    EnableLegal t.sampler.en t.orch.fsm := by
  by_cases hstart : startAccepted c s
  · obtain ⟨skip, go, hacc⟩ := hstart
    have hen : ¬ t.sampler.en = true := by simp [en_of_cycle_inactive h ha, hacc.1]
    simp [EnableLegal, orch_of_start h hacc, hen]
  · rw [orch_of_not_start h hstart]
    rcases fsmEffect_fsm_inactive (sample s) ha with hf | hf <;> simp [EnableLegal, hf]

/-- Every cycle keeps the session invariant. -/
theorem sessionInvariant_of_cycle (h : Safety.Cycle ev c s t) (hs : SessionInvariant s) : SessionInvariant t := by
  obtain ⟨hregs, hen, -, -⟩ := (sessionInvariant_iff s).1 hs
  refine (sessionInvariant_iff t).2
    ⟨registersLegal_of_cycle h hregs, ?_, responseLegal_of_cycle h, pulsesLegal_of_cycle h⟩
  cases ha : sessionActive s with
  | true => exact enableLegal_of_cycle_active h ha hen
  | false => exact enableLegal_of_cycle_inactive h ha

/-! ### The statements about every step and every run -/

theorem reset_sessionInvariant (env : Environment) : SessionInvariant { State.reset with env := env } :=
  (by decide : SessionInvariant State.reset)

theorem sessionInvariant_of_step (hs : SessionInvariant s) (h : step s = .next t) : SessionInvariant t := by
  rcases step_cases s t h with ⟨hr, -⟩ | ⟨-, rfl⟩
  · exact sessionInvariant_of_cycle (cycle_of_step hr h) hs
  · exact reset_sessionInvariant _

/-- Settles O48: a step without reset and a run of one instruction are cycles; a reset cycle ends in the reset state. -/
theorem sessionInvariantKept : Obligations.SessionInvariantKept :=
  ⟨fun _ _ => sessionInvariant_of_step, fun _ _ _ hs h => sessionInvariant_of_cycle (cycle_of_exec h) hs⟩

/-- Settles O50: the limits of the counters are positive for every legal choice of the parameters. -/
theorem resetMeetsInvariants : Obligations.ResetMeetsInvariants :=
  ⟨reset_sessionInvariant _, blinkTicks_pos, watchdogTicks_pos, Nat.zero_le _, nofun, nofun⟩

theorem sessionInvariant_of_reachable (h : Reachable s) : SessionInvariant s := by
  induction h with
  | reset env => exact reset_sessionInvariant env
  | step s t _ h ih => exact sessionInvariant_of_step ih h

/-- Settles O47: `en` is 1 in `IDLE`, `TESTING` and `DONE` only, and none of them is a BURN state. -/
theorem flasherAndSamplerExclusive : Obligations.FlasherAndSamplerExclusive := by
  intro s hreach
  obtain ⟨-, ⟨hen, -⟩, -⟩ := (sessionInvariant_iff s).1 (sessionInvariant_of_reachable hreach)
  have hexcl : s.sampler.en = true → flashEn s = false := by
    intro h
    rcases hen h with hf | hf | hf <;> simp [flashEn, hf]
  unfold pinSel
  cases he : s.sampler.en with
  | true => rw [hexcl he]; decide
  | false => cases flashEn s <;> decide

/-- A flag that `set` sets, also against `clr`, and that `clr` clears, is 1 exactly when it has been set and every later
clear was overridden. -/
theorem flag_history {flag : Nat → Bool} {set clr : Nat → Prop} {n : Nat} (hzero : flag 0 = false)
    (hnext : ∀ k < n, flag (k + 1) = true ↔ set k ∨ (flag k = true ∧ ¬ clr k)) :
    flag n = true ↔ ∃ k, k < n ∧ set k ∧ ∀ j, k < j → j < n → set j ∨ ¬ clr j := by
  induction n with
  | zero => simp [hzero]
  | succ n ih =>
    have ih := ih fun k hk => hnext k (Nat.lt_succ_of_lt hk)
    rw [hnext n (Nat.lt_succ_self n), ih]
    constructor
    · rintro (hset | ⟨⟨k, hk, hset, hlater⟩, hclr⟩)
      · exact ⟨n, Nat.lt_succ_self n, hset, fun j hj hjn => by omega⟩
      · refine ⟨k, Nat.lt_succ_of_lt hk, hset, fun j hj hjn => ?_⟩
        rcases Nat.lt_succ_iff_lt_or_eq.1 hjn with hjn | rfl
        · exact hlater j hj hjn
        · exact .inr hclr
    · rintro ⟨k, hk, hset, hlater⟩
      rcases Nat.lt_succ_iff_lt_or_eq.1 hk with hk | rfl
      · exact (hlater n hk (Nat.lt_succ_self n)).imp_right fun hclr =>
          ⟨⟨k, hk, hset, fun j hj hjn => hlater j hj (Nat.lt_succ_of_lt hjn)⟩, hclr⟩
      · exact .inl hset

/-- Settles O56, by induction on the length of the run: one cycle is `pending_of_cycle`. -/
theorem pendingTellsOfNewFrame : Obligations.PendingTellsOfNewFrame := by
  intro run n hzero hstep
  exact flag_history (flag := fun k => (run k).store.pending) hzero fun k hk =>
    pending_of_cycle (cycle_of_step (hstep k hk).1 (hstep k hk).2)

end Sys2Proof.Proofs
end

section
/-! SUPPORT. Proofs of the statements about the memory: the flags under a set and a clear of one cycle (R45), the
frame that the CLOCK edges build and a LATCH edge captures (R50), and reading `pending` twice (R49). -/

namespace Sys2Proof.Proofs

open Sys2Proof.Machine Sys2Proof.Safety Sys2Proof.Laws

variable {ev : Events} {c : Option Instr} {s t : State}

/-! ### What a cycle writes to the trigger latches -/

section
variable (h : Safety.Cycle ev c s t)
include h

/-- R36, outside a session: CLRGO, CLRRST and START are the commands that make the port clear a latch. -/
theorem latchClears_of_cycle_inactive (ha : sessionActive s = false) :
    ∃ eff, t = cycle Config.params ev eff s ∧
      (eff.goClr = true ↔ c = some .clrgo ∨ ∃ skip go, c = some (.start skip go)) ∧
      (eff.rstClr = true ↔ c = some .clrrst ∨ ∃ skip go, c = some (.start skip go)) := by
  rcases cycle_cases ev c s t h with ⟨r, rfl, hno⟩ | ⟨-, j, eff, rfl, rfl, heff⟩
  · have hno : ∀ j, c = some j → j.mutating = false := by simpa [ha] using hno
    have hc (j : Instr) (hm : j.mutating = true) : c ≠ some j := fun hj => by simp [hno j hj] at hm
    exact ⟨_, rfl, by simp [hc .clrgo rfl, hc .clrrst rfl, hc (.start _ _) rfl]⟩
  · refine ⟨eff, rfl, ?_⟩
    rcases heff with ⟨rfl, rfl⟩ | ⟨rfl, rfl⟩ | ⟨rfl, rfl⟩ | ⟨rfl, rfl⟩ | ⟨rfl, rfl⟩ | ⟨skip, go, rfl, rfl⟩ <;>
      simp [reply]

/-- R45: the clears of a cycle that reach the latches are those of the rule. -/
theorem latches_of_cycle :
    ∃ goClr rstClr, t.latches = nextLatches ev goClr rstClr s.latches ∧
      (goClr = true ↔ GoClr c s) ∧ (rstClr = true ↔ RstClr c s) := by
  cases ha : sessionActive s with
  | true =>
    obtain ⟨r, rfl⟩ := cycle_inside_session ev c s t h ha
    obtain ⟨-, hgo, hrst, -⟩ := fsmEffect_writes s (sample s) ha
    have hport (j : Instr) (hm : j.mutating = true) : ¬ accepted c s j := not_accepted_of_active ha hm
    have hstart : ¬ startAccepted c s := not_startAccepted_of_active ha
    refine ⟨_, _, rfl, ?_, ?_⟩
    · simp [GoClr, hport .clrgo rfl, hstart, hgo]
    · simp [RstClr, hport .clrrst rfl, hstart, hrst]
  | false =>
    obtain ⟨eff, rfl, hgo, hrst⟩ := latchClears_of_cycle_inactive h ha
    refine ⟨_, _, rfl, ?_, ?_⟩
    · rcases (sessionActive_eq_false s).1 ha with hf | hf | hf <;>
        simp [fsmEffect_inactive _ _ _ ha, hgo, GoClr, accepted, startAccepted_iff, ha, hf]
    · rcases (sessionActive_eq_false s).1 ha with hf | hf | hf <;>
        simp [fsmEffect_inactive _ _ _ ha, hrst, RstClr, accepted, startAccepted_iff, ha, hf]

/-! ### What a cycle writes to the accumulator and the Packet Store -/

/-- R77, R80: an enabled cycle without a LATCH edge applies its CLOCK edge, whatever the next enable is. -/
theorem acc_of_cycle_enabled (hen : s.sampler.en = true) (hl : ev.latchRise = false) :
    t.sampler.acc = withClock ev s.sampler.acc := by
  obtain ⟨eff, rfl, -⟩ := cycle_inversion ev c s t h
  simp [nextAcc, hen, hl, clocked_eq]

/-- R80: a capture starts the accumulator again. -/
theorem acc_of_capture (hcap : captures ev s = true) : t.sampler.acc = 0 := by
  obtain ⟨hen, hl⟩ : s.sampler.en = true ∧ ev.latchRise = true := by simpa [captures] using hcap
  obtain ⟨eff, rfl, -⟩ := cycle_inversion ev c s t h
  simp [nextAcc, hen, hl]

/-- R86: a capture writes the Packet Store. -/
theorem store_of_capture (hcap : captures ev s = true) :
    t.store = { cur := withClock ev s.sampler.acc, last := s.store.cur, pending := true } := by
  obtain ⟨eff, rfl, -⟩ := cycle_inversion ev c s t h
  simp [nextStore, captured_eq_some ev s hcap, mergeFlag]

/-- R105, R112, R113: only START begins a session. -/
theorem sessionActive_of_cycle_inactive (ha : sessionActive s = false) (hs : ¬ startAccepted c s) :
    sessionActive t = false := by
  rw [sessionActive_eq_false, orch_of_not_start h hs]
  exact (fsmEffect_fsm_inactive _ ha).imp_right .inl

end

/-- Settles O15: each flag is merged with its own set and clear. -/
theorem setWinsOverClear : Obligations.SetWinsOverClear := by
  intro ev c s t h
  obtain ⟨goClr, rstClr, hlatches, hgo, hrst⟩ := latches_of_cycle h
  refine ⟨pending_of_cycle h, ?_, ?_⟩
  · simp [hlatches, nextLatches, mergeFlag_eq_true, ← hgo]
  · simp [hlatches, nextLatches, mergeFlag_eq_true, ← hrst]

/-! ### Frames -/

theorem msbFirst_lt (bits : List Bool) : msbFirst bits < 2 ^ bits.length := by
  induction bits with
  | nil => simp [msbFirst]
  | cons d rest ih =>
    rw [msbFirst, List.length_cons, Nat.pow_succ]
    split <;> omega

/-- R77 in numbers: the DATA level takes the bit that the shift leaves free, and the highest bit is lost. -/
theorem withClock_toNat (hclk : ev.clkRise = true) (acc : Word) :
    (withClock ev acc).toNat = (2 * acc.toNat + ev.dataBit.toNat) % 2 ^ 32 := by
  have hbit : ev.dataBit.toNat < 2 ^ 1 := Bool.toNat_lt _
  have hdata : (zextFlag ev.dataBit).toNat = ev.dataBit.toNat := by cases ev.dataBit <;> rfl
  have hshift : (acc <<< 1).toNat = 2 ^ 1 * (acc.toNat % 2 ^ 31) := by
    rw [BitVec.toNat_shiftLeft, Nat.shiftLeft_eq]
    omega
  rw [← clocked_eq, clocked, if_pos hclk, shiftIn, BitVec.toNat_or, hshift, hdata,
    ← Nat.two_pow_add_eq_or_of_lt hbit]
  omega

/-- A frame in the making, from any accumulator: the bits stand below it, and what exceeds 32 bits is lost. -/
theorem acc_toNat_of_clocked {bits : List Bool} (h : Clocked bits s t) :
    t.sampler.acc.toNat = (s.sampler.acc.toNat * 2 ^ bits.length + msbFirst bits) % 2 ^ 32 := by
  induction h with
  | refl s => simp [msbFirst, Nat.mod_eq_of_lt s.sampler.acc.isLt]
  | wait ev c bits s u t hcyc hen hl hclk _ ih =>
    rw [ih, acc_of_cycle_enabled hcyc hen hl]
    simp [withClock, hclk]
  | clock ev c bits s u t hcyc hen hl hclk _ ih =>
    have hsplit : msbFirst (ev.dataBit :: bits) = ev.dataBit.toNat * 2 ^ bits.length + msbFirst bits := by
      cases hd : ev.dataBit <;> simp [msbFirst]
    rw [ih, acc_of_cycle_enabled hcyc hen hl, withClock_toNat hclk, hsplit, List.length_cons]
    calc ((2 * s.sampler.acc.toNat + ev.dataBit.toNat) % 2 ^ 32 * 2 ^ bits.length + msbFirst bits) % 2 ^ 32
        = ((2 * s.sampler.acc.toNat + ev.dataBit.toNat) * 2 ^ bits.length + msbFirst bits) % 2 ^ 32 :=
          ((Nat.mod_modEq _ _).mul_right _).add_right _
      _ = _ := by congr 1; ring

/-- Settles O57, by induction on the cycles since the frame began. -/
theorem frameIsMsbFirst : Obligations.FrameIsMsbFirst := by
  intro bits s t hrun hzero
  have hacc : t.sampler.acc.toNat = msbFirst bits % 2 ^ 32 := by simpa [hzero] using acc_toNat_of_clocked hrun
  refine ⟨hacc, fun hlen => ?_, fun ev c u hcyc hen hl hclk => ?_⟩
  · have hlt := msbFirst_lt bits
    have hexact : t.sampler.acc.toNat = msbFirst bits :=
      hacc.trans (Nat.mod_eq_of_lt (hlt.trans_le (Nat.pow_le_pow_right (by decide) hlen)))
    exact ⟨hexact, hexact ▸ hlt⟩
  · have hcap : captures ev t = true := by simp [captures, hen, hl]
    simp [store_of_capture hcyc hcap, acc_of_capture hcyc hcap, withClock, hclk]

/-! ### The presented command -/

theorem commandOf_eq_some {w : CommandWord} {i : Instr} (h : decodeCommand w = .command i) : commandOf w = some i := by
  simp [commandOf, h]

/-- Settles O5: a command on the port is what the step fetches. -/
theorem stepRunsPresentedCommand : Obligations.StepRunsPresentedCommand := by
  intro s i hrst hvalid hdec
  have hport : portCommand s = some i := by simp [portCommand, hvalid, commandOf_eq_some hdec]
  have hfetch : fetch s = some i := by simp [fetch, hport]
  simp [step, hrst, hfetch]

/-- R66, R89: an accepted NEWPKT answers the flag as it stands. -/
theorem rsp_of_newpkt (ha : sessionActive s = false) (h : exec .newpkt s = .next t) :
    t.rsp = { valid := true, data := if s.store.pending then 1 else 0, err := .ok } := by
  rw [exec_eq_cycle] at h
  cases h
  simp [effectDuring, Instr.isCommand, commandEffect_rsp .newpkt s rfl, ha, responseValue]

/-- Settles O31: the first NEWPKT clears the flag and leaves the session inactive. -/
theorem newpktTwiceAnswersZero : Obligations.NewpktTwiceAnswersZero := by
  intro s t u ha hcap hst htu
  have hcyc := cycle_of_exec hst
  have hidle : sessionActive t = false :=
    sessionActive_of_cycle_inactive hcyc ha (by simp [startAccepted_iff, commandDuring, Instr.isCommand])
  have hclear : t.store.pending = false := by
    have hclr : PendClr (commandDuring .newpkt s) s := .inl ⟨rfl, fun _ => ha⟩
    have hnocap : captures (eventsDuring .newpkt s) s = false := hcap
    simpa [hclr, hnocap] using pending_of_cycle hcyc
  exact ⟨rsp_of_newpkt ha hst, by simpa [hclear] using rsp_of_newpkt hidle htu⟩

end Sys2Proof.Proofs
end

section
/-! SUPPORT. Proofs of the statements about the encoding: the decoder and the encoder are inverse (R61 to R65, R72), the
event vector and its signals (R59, R60), and the layout of the status word (R68). -/

namespace Sys2Proof.Proofs

open Sys2Proof.Machine Sys2Proof.Safety Sys2Proof.Laws

/-! ### The decoder of the command port -/

/-- R63: the opcode map is defined but at 0xE and 0xF. -/
theorem decodeOpcode_defined (op : BitVec 4) (s g : Bool) (h : ¬ (op = 0xE ∨ op = 0xF)) :
    ∃ i, decodeOpcode op s g = .command i := by
  obtain ⟨hE, hF⟩ := not_or.1 h
  have hrange : op.toNat < 14 := by
    simp only [← BitVec.toNat_inj, BitVec.reduceToNat] at hE hF
    omega
  unfold decodeOpcode
  interval_cases op.toNat <;> exact ⟨_, rfl⟩

theorem decodeOpcode_reserved (op : BitVec 4) (s g : Bool) (h : op = 0xE ∨ op = 0xF) :
    decodeOpcode op s g = .reserved .opcode := by
  rcases h with rfl | rfl <;> rfl

/-- R65, for a word that is taken: its high bits and, but for START, its argument bits are 0, and its opcode says what
it stands for. -/
theorem decodeCommand_eq_command_iff (w : CommandWord) (i : Instr) :
    decodeCommand w = .command i ↔
      rsvField w = 0 ∧ (opField w = 0xC ∨ argField w = 0) ∧
        decodeOpcode (opField w) (skipBurnBit w) (requireGoBit w) = .command i := by
  unfold decodeCommand
  split
  next hrsv => exact iff_of_false nofun fun ⟨h, _⟩ => hrsv h
  next hrsv =>
    split
    next hop => exact iff_of_false nofun fun ⟨_, _, h⟩ => by simp [decodeOpcode_reserved _ _ _ hop] at h
    next hop =>
      split
      next harg => exact iff_of_false nofun fun ⟨_, h, _⟩ => h.elim harg.1 harg.2
      next harg => exact ⟨fun h => ⟨not_not.1 hrsv, by tauto, h⟩, fun ⟨_, _, h⟩ => h⟩

theorem commandOf_eq_some_iff (w : CommandWord) (i : Instr) : commandOf w = some i ↔ decodeCommand w = .command i := by
  unfold commandOf
  cases decodeCommand w <;> simp

/-- R64: the reasons for which a word is reserved. -/
theorem commandOf_eq_none_iff (w : CommandWord) :
    commandOf w = none ↔
      (opField w = 0xE ∨ opField w = 0xF) ∨ rsvField w ≠ 0 ∨ (opField w ≠ 0xC ∧ argField w ≠ 0) := by
  simp only [Option.eq_none_iff_forall_ne_some, ne_eq, commandOf_eq_some_iff, decodeCommand_eq_command_iff]
  constructor
  · intro hnone
    by_cases hop : opField w = 0xE ∨ opField w = 0xF
    · exact .inl hop
    · obtain ⟨i, hi⟩ := decodeOpcode_defined _ (skipBurnBit w) (requireGoBit w) hop
      have := hnone i
      tauto
  · rintro (hop | hrsv | harg) i ⟨hrsv', harg', hi⟩
    · simp [decodeOpcode_reserved _ _ _ hop] at hi
    · exact hrsv hrsv'
    · exact harg'.elim harg.1 harg.2

/-! ### Decoding and encoding are inverse -/

theorem decode_encode (i : Instr) : decode (encode i) = some i := by
  cases i with
  | start s g => cases s <;> cases g <;> rfl
  | clkRise d => cases d <;> rfl
  | _ => rfl

/-- R61: a word with high bits 0 is made of its opcode and its two START bits. -/
theorem commandWord_fields (w : CommandWord) (h : rsvField w = 0) :
    commandWord (opField w) (skipBurnBit w) (requireGoBit w) = w := by
  have all : ∀ w : CommandWord, rsvField w = 0 →
      commandWord (opField w) (skipBurnBit w) (requireGoBit w) = w := by decide
  exact all w h

theorem startBits_of_argField (w : CommandWord) (h : argField w = 0) :
    skipBurnBit w = false ∧ requireGoBit w = false := by
  have hbit (k : Nat) : (argField w).getLsbD k = false := by simp [h]
  exact ⟨by simpa [argField, skipBurnBit] using hbit 0, by simpa [argField, requireGoBit] using hbit 1⟩

/-- R63, R72: the encoder undoes the opcode map, in which START alone has arguments. -/
theorem encode_of_decodeOpcode {op : BitVec 4} {s g : Bool} {i : Instr} (h : decodeOpcode op s g = .command i)
    (hargs : op = 0xC ∨ (s = false ∧ g = false)) : encode i = .command (commandWord op s g) := by
  rcases hargs with rfl | ⟨rfl, rfl⟩
  · obtain rfl : Instr.start s g = i := Decoded.command.inj h
    rfl
  · have hop : op = BitVec.ofNat 4 op.toNat := by simp
    unfold decodeOpcode at h
    split at h
    case h_15 => cases h
    all_goals
      next hn =>
        cases h
        rw [hop, hn]
        rfl

/-- R65, R72: a word that decodes is the encoding of what it decodes to. -/
theorem encode_of_commandOf {w : CommandWord} {i : Instr} (h : commandOf w = some i) : encode i = .command w := by
  obtain ⟨hrsv, harg, hop⟩ := (decodeCommand_eq_command_iff w i).1 ((commandOf_eq_some_iff w i).1 h)
  rw [encode_of_decodeOpcode hop (harg.imp_right (startBits_of_argField w)), commandWord_fields w hrsv]

/-! ### The event vector -/

/-- R60: an event vector is made of its five bits. -/
theorem eventsToVector_eventsOfVector (e : EventVector) : eventsToVector (eventsOfVector e) = e := by
  have all : ∀ e : EventVector, eventsToVector (eventsOfVector e) = e := by decide
  exact all e

/-- R60: each signal stands at its own place in the vector. -/
theorem eventsOfVector_eventsToVector (ev : Events) : eventsOfVector (eventsToVector ev) = ev := by
  have all : ∀ rst go latch clk data : Bool,
      eventsOfVector (eventVector rst go latch clk data) = ⟨rst, go, latch, clk, data⟩ := by decide
  exact all ev.rstFall ev.goRise ev.latchRise ev.clkRise ev.dataBit

/-- R60: the DATA level, bit 0, is no event. -/
theorem decodeEvents_eq_nil_iff (e : EventVector) : decodeEvents e = [] ↔ e.extractLsb' 1 4 = 0 := by
  have hnil : decodeEvents e = [] ↔
      e.getLsbD 1 = false ∧ e.getLsbD 2 = false ∧ e.getLsbD 3 = false ∧ e.getLsbD 4 = false := by
    simp [decodeEvents]
  rw [hnil]
  constructor
  · rintro ⟨h1, h2, h3, h4⟩
    refine BitVec.eq_of_getLsbD_eq fun k hk => ?_
    rw [BitVec.getLsbD_extractLsb']
    interval_cases k <;> simpa
  · intro h
    have hbit (k : Nat) : (e.extractLsb' 1 4).getLsbD k = false := by simp [h]
    exact ⟨by simpa using hbit 0, by simpa using hbit 1, by simpa using hbit 2, by simpa using hbit 3⟩

/-- Settles O1: the encoder undoes the opcode map, and the fields of a word with high bits 0 make up the word. -/
theorem decodeInvertsEncode : Obligations.DecodeInvertsEncode :=
  ⟨fun i _ => decode_encode i, fun _ _ => encode_of_commandOf, eventsToVector_eventsOfVector, decodeEvents_eq_nil_iff⟩

/-- Settles O2: the signals are those of the rule, and each is read back from its place in the vector. -/
theorem eventSignalsFromState : Obligations.EventSignalsFromState := by
  intro s
  have hplaces := eventsOfVector_eventsToVector (detectEvents s)
  exact ⟨rfl, rfl, rfl, rfl, rfl, congrArg Events.dataBit hplaces, congrArg Events.clkRise hplaces,
    congrArg Events.latchRise hplaces, congrArg Events.goRise hplaces, congrArg Events.rstFall hplaces⟩

/-- Settles O4, by evaluating the decoder on each word. -/
theorem knownWordsDecode : Obligations.KnownWordsDecode := by
  refine ⟨?_, ?_, ?_, ?_, ?_, ?_, ?_, ?_, ?_, ?_, ?_, ?_⟩
  all_goals decide

/-! ### The response of a step (R66) -/

section
variable {s : State} (hvalid : (sample s).cmdValid = true)
include hvalid

theorem portEffect_reserved (hword : commandOf (sample s).cmd = none) :
    portEffect Config.params s = raiseCmdError .reserved := by
  simp [portEffect, hvalid, hword]

theorem portEffect_command {i : Instr} (hword : commandOf (sample s).cmd = some i) :
    portEffect Config.params s = commandEffect Config.params i s := by
  simp [portEffect, hvalid, hword]

end

theorem portEffect_noCommand {s : State} (h : (sample s).cmdValid = false) :
    portEffect Config.params s = noCommand := by
  simp [portEffect, h]

/-- A port that answers and does nothing else makes the quiet cycle, with its own response. -/
theorem commandCycle_respondOnly (r : Response) (s : State) :
    commandCycle (respondOnly r) s = { quiet s with rsp := r } := rfl

/-- Settles O7: without a command the port contributes a response alone. -/
theorem stepWithoutCommand : Obligations.StepWithoutCommand := by
  intro s hrst hport
  rw [step_eq_eventCycle s hrst]
  cases hvalid : (sample s).cmdValid with
  | false => simp [eventCycle, portEffect_noCommand hvalid, noCommand, ← commandCycle_respondOnly, commandCycle]
  | true =>
    have hword : commandOf (sample s).cmd = none := by simpa [portCommand, hvalid] using hport
    simp [eventCycle, portEffect_reserved hvalid hword, raiseCmdError, ← commandCycle_respondOnly, commandCycle]

/-- Settles O3: a reserved word is no command, so its step is one without a command. -/
theorem reservedWordsAreRefused : Obligations.ReservedWordsAreRefused := by
  refine ⟨commandOf_eq_none_iff, fun s hrst hvalid hword => ?_⟩
  have hport : portCommand s = none := by simp [portCommand, hword]
  simpa [hvalid] using stepWithoutCommand s hrst hport

/-- Settles O6: an event that the state shows adds nothing to the cycle of the events it shows. -/
theorem stepRunsEveryDetectedEvent : Obligations.StepRunsEveryDetectedEvent := by
  intro s i hrst hdet
  obtain ⟨hevent, hsame⟩ := eventsDuring_detected i s hdet
  rw [step_eq_eventCycle s hrst, exec_event i s hevent, hsame]

theorem rsp_of_step {s t : State} (hrst : (sample s).rstN = true) (h : step s = .next t) :
    t.rsp = (portEffect Config.params s).rsp := by
  rw [step_eq_eventCycle s hrst] at h
  cases h
  rfl

/-- Settles O17: a cycle without reset answers what the port contributes. -/
theorem responseEveryStep : Obligations.ResponseEveryStep := by
  intro s t h
  refine ⟨fun hrst => ?_, fun hrst hvalid => ?_, fun hrst hvalid hword => ?_, fun i hrst hvalid hword => ?_⟩
  · rw [step_eq_resetCycle s hrst] at h
    cases h
    rfl
  · rw [rsp_of_step hrst h, portEffect_noCommand hvalid]
    rfl
  · rw [rsp_of_step hrst h, portEffect_reserved hvalid hword]
    rfl
  · rw [rsp_of_step hrst h, portEffect_command hvalid hword]
    exact commandEffect_rsp i s (commandOf_isCommand _ i hword)

/-! ### The status word (R68) -/

theorem extractLsb'_append_low {v n : Nat} (hi : BitVec v) (x : BitVec n) : (hi ++ x).extractLsb' 0 n = x := by
  rw [BitVec.extractLsb'_append_eq_of_add_le (by omega), BitVec.extractLsb'_eq_self]

section
variable (p : Params) (s : State)

/-- The fields of one bit. -/
theorem statusWord_bits :
    (statusWord p s).getLsbD 0 = s.store.pending ∧ (statusWord p s).getLsbD 1 = changed s.store ∧
    (statusWord p s).getLsbD 2 = s.latches.goL ∧ (statusWord p s).getLsbD 3 = s.latches.rstL ∧
    (statusWord p s).getLsbD 4 = s.sampler.en ∧ (statusWord p s).getLsbD 5 = flashEn s ∧
    (statusWord p s).getLsbD 6 = sessionActive s ∧ (statusWord p s).getLsbD 7 = false ∧
    (statusWord p s).getLsbD 15 = s.orch.cfgSkipBurn ∧ (statusWord p s).getLsbD 16 = s.orch.cfgRequireGo := by
  simp only [statusWord, BitVec.getLsbD_append]
  simp

/-- The wider fields: each is what is left at the low end once the fields below it are dropped. -/
theorem statusWord_fields :
    (statusWord p s).extractLsb' 8 3 = fsmCode s.orch.fsm ∧
    (statusWord p s).extractLsb' 11 2 = resultCode s.orch.result ∧
    (statusWord p s).extractLsb' 13 2 = s.orch.attempts ∧
    (statusWord p s).extractLsb' 17 7 = 0 ∧
    (statusWord p s).extractLsb' 24 8 = led p s := by
  simp only [statusWord, BitVec.extractLsb'_append_eq_of_le, Nat.reduceLeDiff, Nat.reduceSub]
  exact ⟨extractLsb'_append_low _ _, extractLsb'_append_low _ _, extractLsb'_append_low _ _,
    extractLsb'_append_low _ _, BitVec.extractLsb'_eq_self⟩

end

/-- Settles O29, field by field; the codes are those of R69 and R70. -/
theorem statusWordFields : Obligations.StatusWordFields := by
  intro p s
  obtain ⟨hpend, hchg, hgo, hrst, hen, hflash, hact, hzero, hskip, hreq⟩ := statusWord_bits p s
  obtain ⟨hfsm, hres, hatt, hzeros, hled⟩ := statusWord_fields p s
  refine ⟨hpend, ?_, hgo, hrst, hen, hflash, hact, hzero, ?_, ?_, hatt, hskip, hreq, hzeros, hled⟩
  · rw [hchg, Bool.eq_iff_iff, changed_eq_true, decide_eq_true_iff]
  · rw [hfsm]
    cases s.orch.fsm <;> rfl
  · rw [hres]
    cases s.orch.result <;> rfl

end Sys2Proof.Proofs
end

section
/-! SUPPORT. The pin-level realisation of an event-level program (R74) as a run: in each cycle the synchronizers hold
the pin levels of three neighbouring lines, and the samples to come are those of the lines that are left. -/

namespace Sys2Proof.Proofs

open Sys2Proof.Machine Sys2Proof.Safety Sys2Proof.Laws

/-- The synchronizers in the cycle of the line `now`, between the lines `prev` and `next`: each pin's first stage is
at the level of `next`, its second at that of `now`, and the edge detector at that of `prev`. -/
def shownSync (prev now next : EventLine) : SyncRegs :=
  { clkS0 := next.clk.isSome, clkS1 := now.clk.isSome, clkP := prev.clk.isSome
    datS0 := next.clk.getD false, datS1 := now.clk.getD false
    latS0 := next.latch, latS1 := now.latch, latP := prev.latch
    goS0 := next.go, goS1 := now.go, goP := prev.go
    rstS0 := !next.rst, rstS1 := !now.rst, rstP := !prev.rst
    arm := Config.armCycles }

/-- `RunsProgram prev prog s`: the realisation of a program has come, after its line `prev`, to the state `s` and the
lines `prog`. -/
structure RunsProgram (prev : EventLine) (prog : List EventLine) (s : State) : Prop where
  sync : s.sync = shownSync prev (prog.getD 0 {}) (prog.getD 1 {})
  stim : s.env.stim = realise prog

/-- Before its first line a program is as after a line without events. -/
theorem preload_runsProgram (prog : List EventLine) (s : State) : RunsProgram {} prog (preload prog s) :=
  ⟨rfl, rfl⟩

theorem wellFormedProgram_cons_empty {prog : List EventLine} (h : EventLine.wellFormedProgram prog = true) :
    EventLine.wellFormedProgram ({} :: prog) = true := by
  cases prog with
  | nil => rfl
  | cons l rest => simpa [EventLine.wellFormedProgram, EventLine.mayFollow] using h

variable {prev l : EventLine} {rest : List EventLine} {s t : State}

theorem RunsProgram.sample_eq (h : RunsProgram prev (l :: rest) s) : sample s = realiseLine l (rest.getD 1 {}) :=
  sample_cons s _ _ h.stim

/-- R59: a pin that rises to the line's level shows the line's event, since the line before it has none of the same
kind. -/
theorem RunsProgram.detectEvents_eq (h : RunsProgram prev (l :: rest) s) (hsep : prev.mayFollow l = true) :
    detectEvents s = lineEvents l := by
  simp only [EventLine.mayFollow, Bool.and_eq_true, Bool.not_eq_true', Bool.and_eq_false_iff] at hsep
  obtain ⟨⟨⟨hclk, hlatch⟩, hgo⟩, hrst⟩ := hsep
  have hedge {a b : Bool} (hab : a = false ∨ b = false) : (b && !a) = b := by
    rcases hab with rfl | rfl <;> simp
  simp only [detectEvents, h.sync, shownSync, lineEvents, List.getD_cons_zero, BEq.rfl, Bool.true_and, Bool.not_not,
    hedge hclk, hedge hlatch, hedge hgo, hedge hrst]

/-- R15, R16: a cycle moves every level on by one line. -/
theorem RunsProgram.step (h : RunsProgram prev (l :: rest) s) (hrst : l.rstN = true) :
    ∃ t, step s = .next t ∧ RunsProgram l rest t := by
  have hsample := h.sample_eq
  refine ⟨_, step_eq_eventCycle s (by rw [hsample]; exact hrst), ?_, ?_⟩
  · simp [eventCycle, nextSync, hsample, h.sync, shownSync, realiseLine, nextArm]
  · simp [eventCycle, nextEnv, h.stim, realise]

/-- The run of a program comes to its `n`-th line with a line before it that may precede it. -/
theorem runsProgram_of_run {prog : List EventLine} {n : Nat} (h : RunsProgram prev prog s)
    (hwf : EventLine.wellFormedProgram (prev :: prog) = true) (hrst : ∀ x ∈ prog, x.rstN = true)
    (hline : prog[n]? = some l) (hrun : Sys2Proof.core.run n s = .next t) :
    ∃ prev rest, prev.mayFollow l = true ∧ RunsProgram prev (l :: rest) t := by
  induction n generalizing prev prog s with
  | zero =>
    cases hrun
    obtain ⟨rest, rfl⟩ := List.head?_eq_some_iff.1 (List.head?_eq_getElem? ▸ hline)
    simp only [EventLine.wellFormedProgram, Bool.and_eq_true] at hwf
    exact ⟨prev, rest, hwf.1, h⟩
  | succ n ih =>
    cases prog with
    | nil => simp at hline
    | cons l₀ rest =>
      obtain ⟨u, hstep, hu⟩ := h.step (hrst l₀ (by simp))
      rw [run_succ n s u hstep] at hrun
      simp only [EventLine.wellFormedProgram, Bool.and_eq_true] at hwf
      exact ih hu hwf.2 (fun x hx => hrst x (by simp [hx])) (by simpa using hline) hrun

/-- Settles O60, by induction on the lines run: the state before each line holds the levels of the lines around it. -/
theorem realisedProgramShowsItsEvents : Obligations.RealisedProgramShowsItsEvents := by
  intro prog s t n l hwf hrst hline hrun
  obtain ⟨prev, rest, hsep, ht⟩ :=
    runsProgram_of_run (preload_runsProgram prog s) (wellFormedProgram_cons_empty hwf) hrst hline hrun
  refine ⟨ht.detectEvents_eq hsep, ?_⟩
  rw [ht.sample_eq]
  exact ⟨rfl, rfl, rfl, rfl⟩

end Sys2Proof.Proofs
end

section
/-! SUPPORT. What holds of the commands in common: the words of a command without arguments (R61, R64, R72), and what a
command that only answers, or is refused, makes of its cycle (R66, R130, R132). -/

namespace Sys2Proof.Proofs

open Sys2Proof.Machine Sys2Proof.Safety Sys2Proof.Laws

/-! ### The words of a command without arguments -/

/-- R61: `cmd[7:4]` is made of `rsv` and the START arguments. -/
theorem highNibble_eq_zero_iff (w : CommandWord) :
    w.extractLsb' 4 4 = 0 ↔ rsvField w = 0 ∧ argField w = 0 := by
  have all : ∀ w : CommandWord, w.extractLsb' 4 4 = 0 ↔ rsvField w = 0 ∧ argField w = 0 := by decide
  exact all w

/-- An opcode that the map of R63 gives to one command, whatever the argument bits, encodes that command. -/
theorem encodedAs_of_decodeOpcode {op : BitVec 4} {i : Instr} (hop : op ≠ 0xC)
    (hmap : ∀ s g, decodeOpcode op s g = .command i) : encodedAs op i := by
  refine ⟨encode_of_decodeOpcode (hmap false false) (.inr ⟨rfl, rfl⟩), ?_⟩
  rintro w rfl
  split
  next hzero =>
    obtain ⟨hrsv, harg⟩ := (highNibble_eq_zero_iff w).1 hzero
    rw [commandOf_eq_some_iff, decodeCommand_eq_command_iff]
    exact ⟨hrsv, .inr harg, hmap _ _⟩
  next hnonzero =>
    rw [highNibble_eq_zero_iff, not_and_or] at hnonzero
    rw [commandOf_eq_none_iff]
    exact .inr (hnonzero.imp_right fun harg => ⟨hop, harg⟩)

/-! ### The cycle of a command -/

section
variable {i : Instr} {s : State} (hc : i.isCommand = true)
include hc

theorem exec_command : exec i s = .next (commandCycle (commandEffect Config.params i s) s) := by
  simp [exec_eq_cycle, eventsDuring_command i s hc, effectDuring, hc, commandCycle]

/-- R66: a command that only answers makes the quiet cycle, with its own response. -/
theorem exec_of_respondOnly {r : Response} (heff : commandEffect Config.params i s = respondOnly r) :
    exec i s = .next { quiet s with rsp := r } := by
  rw [exec_command hc, heff, commandCycle_respondOnly]

/-- R130, R132: inside a session a mutating command is refused. -/
theorem exec_refused (hm : i.mutating = true) (ha : sessionActive s = true) :
    exec i s = .next { quiet s with rsp := { valid := true, data := 0, err := .busy } } := by
  rcases commandEffect_cases Config.params i s with ⟨r, heff⟩ | ⟨hno, -⟩
  · obtain rfl : r = { valid := true, data := 0, err := .busy } := by
      simpa [heff, hm, ha] using commandEffect_rsp i s hc
    exact exec_of_respondOnly hc heff
  · simp [ha] at hno

end

/-- R132: outside a session the guard lets a command perform. -/
theorem ifOwner_of_inactive {s : State} (ha : sessionActive s = false) (e : CommandEffect) : ifOwner s e = e := by
  simp [ifOwner, ha]

end Sys2Proof.Proofs
end

section
/-! SUPPORT. Proofs of the statements about the Bit Sampler: the accumulator and the capture in every cycle (R80, R86,
R87), what the CLOCK and LATCH edges add to a cycle (R75 to R79), and SEN, SDIS and RDACC (R82 to R84). -/

namespace Sys2Proof.Proofs

open Sys2Proof.Machine Sys2Proof.Safety Sys2Proof.Laws

/-! ### The next accumulator -/

section
variable {ev : Events} {sm : Sampler}

/-- R80: a disabled sampler keeps `acc`, unless the cycle enables it. -/
theorem nextAcc_of_disabled (hen : sm.en = false) (enNext : Bool) :
    nextAcc ev sm enNext = if enNext = true then 0 else sm.acc := by
  simp [nextAcc, hen]

/-- R80: in an enabled sampler the bus events act, whatever the next enable is. -/
theorem nextAcc_of_enabled (hen : sm.en = true) (enNext : Bool) :
    nextAcc ev sm enNext = if ev.latchRise = true then 0 else withClock ev sm.acc := by
  simp [nextAcc, hen, clocked_eq]

end

/-! ### What a cycle writes to the Bit Sampler and the Packet Store -/

section
variable {ev : Events} {c : Option Instr} {s t : State}

theorem captures_of_disabled (hen : s.sampler.en = false) : captures ev s = false := by
  simp [captures, hen]

variable (h : Safety.Cycle ev c s t)
include h

theorem acc_of_cycle : t.sampler.acc = nextAcc ev s.sampler t.sampler.en := by
  obtain ⟨eff, rfl, -⟩ := cycle_inversion ev c s t h
  rfl

/-- R80, the enabling case and the last one. -/
theorem sampler_of_cycle_disabled (hen : s.sampler.en = false) :
    t.sampler = { acc := if t.sampler.en = true then 0 else s.sampler.acc, en := t.sampler.en } := by
  rw [← nextAcc_of_disabled (ev := ev) hen, ← acc_of_cycle h]

/-- R87: without a capture `pending` is all of the Packet Store that can change. -/
theorem store_of_no_capture (hcap : captures ev s = false) :
    t.store = { s.store with pending := t.store.pending } := by
  obtain ⟨eff, rfl, -⟩ := cycle_inversion ev c s t h
  simp [nextStore, captured_eq_none ev s hcap]

/-- R36: the next enable depends on the state and the command, and on no event. -/
theorem en_eq_of_cycles {ev' : Events} {t' : State} (h' : Safety.Cycle ev' c s t') :
    t.sampler.en = t'.sampler.en := by
  cases ha : sessionActive s with
  | true => rw [en_of_cycle_active h ha, en_of_cycle_active h' ha]
  | false => rw [Bool.eq_iff_iff, en_of_cycle_inactive h ha, en_of_cycle_inactive h' ha]

/-- R75: with the sampler disabled, `pending` is only ever cleared, by the state and the command. -/
theorem pending_of_cycle_disabled (hen : s.sampler.en = false) :
    t.store.pending = true ↔ s.store.pending = true ∧ ¬ PendClr c s := by
  simp [pending_of_cycle h, captures_of_disabled hen]

end

/-- Settles O13. The enable of the pre-state decides which cases of R80 are left. -/
theorem accumulatorAndCapture : Obligations.AccumulatorAndCapture := by
  intro ev c s t h
  refine ⟨?_, fun ⟨hen, hl⟩ => store_of_capture h (by simp [captures, hen, hl]), fun hno => ?_⟩
  · rw [acc_of_cycle h]
    cases hen : s.sampler.en with
    | false => simp [nextAcc_of_disabled hen]
    | true => simp [nextAcc_of_enabled hen]
  · have hcap : captures ev s = false := by simpa [captures] using hno
    rw [store_of_no_capture h hcap]
    exact ⟨rfl, rfl⟩

/-- Settles O14: what a disabled cycle leaves is said by the state and the command alone. -/
theorem disabledSamplerIgnoresBus : Obligations.DisabledSamplerIgnoresBus := by
  intro ev ev' c s t t' hen h h'
  have hsampler := sampler_of_cycle_disabled h hen
  have hstore := store_of_no_capture h (captures_of_disabled hen)
  have hpending := pending_of_cycle_disabled h hen
  refine ⟨?_, ?_, by rw [hstore], by rw [hstore], fun hoff => ?_, fun hp => (hpending.1 hp).1⟩
  · rw [hsampler, sampler_of_cycle_disabled h' hen, en_eq_of_cycles h h']
  · have hsame : t.store.pending = t'.store.pending := by
      rw [Bool.eq_iff_iff, hpending, pending_of_cycle_disabled h' hen]
    rw [hstore, store_of_no_capture h' (captures_of_disabled hen), hsame]
  · simpa [hoff] using congrArg Sampler.acc hsampler

/-! ### What a bus event adds to a cycle -/

section
variable {s : State} {ev ev' : Events}

theorem eventCycle_acc (ev : Events) (s : State) :
    (eventCycle ev s).sampler.acc = nextAcc ev s.sampler (eventCycle ev s).sampler.en := rfl

theorem eventCycle_acc_of_capture (hcap : captures ev s = true) : (eventCycle ev s).sampler.acc = 0 := by
  obtain ⟨hen, hl⟩ : s.sampler.en = true ∧ ev.latchRise = true := by simpa [captures] using hcap
  simp [eventCycle_acc, nextAcc_of_enabled hen, hl]

theorem eventCycle_store_of_capture (hcap : captures ev s = true) :
    (eventCycle ev s).store = { cur := withClock ev s.sampler.acc, last := s.store.cur, pending := true } := by
  simp [eventCycle, nextStore, captured_eq_some ev s hcap, mergeFlag]

/-- R86: cycles without a capture leave the same Packet Store. -/
theorem eventCycle_store_of_no_capture (hcap : captures ev s = false) (hcap' : captures ev' s = false) :
    (eventCycle ev s).store = (eventCycle ev' s).store := by
  simp [eventCycle, captured_eq_none ev s hcap, captured_eq_none ev' s hcap']

/-- R44: the bus events reach the accumulator and the Packet Store only; GO and RESET edges being the same, the rest of
the cycle is. -/
theorem eventCycle_eq_of_triggers (hgo : ev.goRise = ev'.goRise) (hrst : ev.rstFall = ev'.rstFall) :
    eventCycle ev s =
      { eventCycle ev' s with
        sampler := { (eventCycle ev' s).sampler with acc := (eventCycle ev s).sampler.acc }
        store := (eventCycle ev s).store } := by
  simp [eventCycle, cycle, nextLatches, hgo, hrst]

section
variable (hgo : ev.goRise = ev'.goRise) (hrst : ev.rstFall = ev'.rstFall)
include hgo hrst

/-- R75: a disabled sampler makes nothing of the bus events. -/
theorem eventCycle_of_disabled (hen : s.sampler.en = false) : eventCycle ev s = eventCycle ev' s := by
  have hacc : (eventCycle ev s).sampler.acc = (eventCycle ev' s).sampler.acc := by
    rw [eventCycle_acc, eventCycle_acc, nextAcc_of_disabled hen, nextAcc_of_disabled hen]
    rfl
  rw [eventCycle_eq_of_triggers hgo hrst, hacc,
    eventCycle_store_of_no_capture (captures_of_disabled hen) (captures_of_disabled hen)]

/-- R77: between cycles without a LATCH edge, the CLOCK edge makes a difference to the accumulator. -/
theorem eventCycle_of_clock (hen : s.sampler.en = true) (hl : ev.latchRise = false) (hl' : ev'.latchRise = false) :
    eventCycle ev s =
      { eventCycle ev' s with
        sampler := { (eventCycle ev' s).sampler with acc := withClock ev s.sampler.acc } } := by
  have hacc : (eventCycle ev s).sampler.acc = withClock ev s.sampler.acc := by
    simp [eventCycle_acc, nextAcc_of_enabled hen, hl]
  rw [eventCycle_eq_of_triggers hgo hrst, hacc,
    eventCycle_store_of_no_capture (ev' := ev') (by simp [captures, hl]) (by simp [captures, hl'])]

/-- R78, R86: what a capture makes of a cycle. -/
theorem eventCycle_of_capture (hcap : captures ev s = true) :
    eventCycle ev s =
      { eventCycle ev' s with
        sampler := { (eventCycle ev' s).sampler with acc := 0 }
        store := { cur := withClock ev s.sampler.acc, last := s.store.cur, pending := true } } := by
  rw [eventCycle_eq_of_triggers hgo hrst, eventCycle_acc_of_capture hcap, eventCycle_store_of_capture hcap]

/-- R79: between cycles that capture, the CLOCK edge makes a difference to the captured frame. -/
theorem eventCycle_of_clock_and_capture (hcap : captures ev s = true) (hcap' : captures ev' s = true) :
    eventCycle ev s =
      { eventCycle ev' s with
        store := { (eventCycle ev' s).store with cur := withClock ev s.sampler.acc } } := by
  rw [eventCycle_of_capture hgo hrst hcap, ← eventCycle_acc_of_capture hcap', eventCycle_store_of_capture hcap']

end

end

/-- Settles O32: the edge acts on the frame that the cycle captures, if it captures one, and else on the accumulator. -/
theorem clockEdgeShifts : Obligations.ClockEdgeShifts := by
  intro d s
  rw [exec_event _ s rfl]
  refine congrArg Host.Outcome.next ?_
  cases hen : s.sampler.en with
  | false => exact eventCycle_of_disabled rfl rfl hen
  | true =>
    cases hl : (detectEvents s).latchRise with
    | true =>
      exact eventCycle_of_clock_and_capture rfl rfl (by simp [captures, eventsDuring, hen, hl])
        (by simp [captures, hen, hl])
    | false => exact eventCycle_of_clock rfl rfl hen hl hl

/-- Settles O33: the CLOCK edge of the cycle, where there is one, is in both cycles. -/
theorem latchEdgeCaptures : Obligations.LatchEdgeCaptures := by
  intro s
  rw [exec_event _ s rfl]
  refine congrArg Host.Outcome.next ?_
  cases hen : s.sampler.en with
  | false => exact eventCycle_of_disabled rfl rfl hen
  | true => exact eventCycle_of_capture rfl rfl (by simp [captures, eventsDuring, hen])

/-! ### SEN, SDIS and RDACC -/

section
variable {s : State}

/-- R82, R83: a command that writes the enable, and nothing else besides its response, acts on the Bit Sampler
alone. -/
theorem exec_of_enWrite {i : Instr} {en : Bool} (hc : i.isCommand = true)
    (heff : commandEffect Config.params i s = { reply 0 with enWrite := some en }) :
    exec i s = .next { quiet s with
      sampler := { acc := nextAcc (detectEvents s) s.sampler en, en := en }
      rsp := { valid := true, data := 0, err := .ok } } := by
  rw [exec_command hc, heff]
  rfl

/-- R36: outside a session a cycle without a command keeps the enable. -/
theorem quiet_sampler_of_inactive (ha : sessionActive s = false) :
    (quiet s).sampler =
      { acc := nextAcc (detectEvents s) s.sampler s.sampler.en, en := s.sampler.en } := by
  have hen : (quiet s).sampler.en = s.sampler.en := by
    simp [quiet, commandCycle, noCommand, nextEn, fsmEffect_inactive _ _ _ ha]
  rw [← hen]
  rfl

end

/-- Settles O25: an enabled sampler takes the bus events of the cycle as without SEN, a disabled one none. -/
theorem senEnablesAndClears : Obligations.SenEnablesAndClears := by
  refine ⟨encodedAs_of_decodeOpcode (by decide) fun _ _ => rfl, fun s ha => ?_, fun s => exec_refused rfl rfl⟩
  have heff : commandEffect Config.params .sen s = { reply 0 with enWrite := some true } := ifOwner_of_inactive ha _
  rw [exec_of_enWrite rfl heff, quiet_sampler_of_inactive ha]
  cases hen : s.sampler.en with
  | false => simp [nextAcc_of_disabled hen]
  | true => simp

/-- Settles O26: whether the sampler is enabled or not, its next accumulator is that of the quiet cycle. -/
theorem sdisDisables : Obligations.SdisDisables := by
  refine ⟨encodedAs_of_decodeOpcode (by decide) fun _ _ => rfl, fun s ha => ?_, fun s => exec_refused rfl rfl⟩
  have heff : commandEffect Config.params .sdis s = { reply 0 with enWrite := some false } := ifOwner_of_inactive ha _
  rw [exec_of_enWrite rfl heff, quiet_sampler_of_inactive ha]
  cases hen : s.sampler.en with
  | false => rfl
  | true => simp [nextAcc_of_enabled hen]

/-- Settles O27: RDACC only answers. -/
theorem rdaccAnswersAccumulator : Obligations.RdaccAnswersAccumulator :=
  ⟨encodedAs_of_decodeOpcode (by decide) fun _ _ => rfl, fun _ => exec_of_respondOnly rfl rfl⟩

end Sys2Proof.Proofs
end

section
/-! SUPPORT. Proofs of the statements about the Packet Store's commands: NEWPKT, which reads `pending` and clears it (R89),
and the reads RDCAP, RDLAST and CHG (R90 to R92), as commands that are performed in every state (R132). -/

namespace Sys2Proof.Proofs

open Sys2Proof.Machine Sys2Proof.Safety Sys2Proof.Laws

variable {i : Instr} {s : State}

/-- R132: a command that is not mutating is performed in every state, and only answers. -/
theorem exec_of_not_mutating (hc : i.isCommand = true) (hm : i.mutating = false) :
    exec i s = .next { quiet s with rsp := { valid := true, data := responseValue s i, err := .ok } } := by
  rcases commandEffect_cases Config.params i s with ⟨r, heff⟩ | ⟨-, hmut⟩
  · obtain rfl : r = { valid := true, data := responseValue s i, err := .ok } := by
      simpa [heff, hm] using commandEffect_rsp i s hc
    exact exec_of_respondOnly hc heff
  · rcases hmut with ⟨rfl, -⟩ | ⟨rfl, -⟩ | ⟨rfl, -⟩ | ⟨rfl, -⟩ | ⟨rfl, -⟩ | ⟨skip, go, rfl, -⟩ <;> cases hm

/-- R45, R86: a clear of `pending` loses against a capture of its cycle, and touches neither frame. -/
theorem nextStore_clear (ev : Events) (s : State) (clr : Bool) :
    nextStore (captured ev s.sampler) true s.store =
      { nextStore (captured ev s.sampler) clr s.store with pending := captures ev s } := by
  simp [nextStore, mergeFlag_clear, captured_isSome]

/-- A command that clears `pending`, and does nothing else besides its answer, acts on `pending` alone. -/
theorem exec_of_pendClr {v : Word} (hc : i.isCommand = true)
    (heff : commandEffect Config.params i s = { reply v with pendClr := true }) :
    exec i s = .next { quiet s with
      store := { (quiet s).store with pending := captures (detectEvents s) s }
      rsp := { valid := true, data := v, err := .ok } } := by
  have hstore : (commandCycle { reply v with pendClr := true } s).store =
      { (quiet s).store with pending := captures (detectEvents s) s } := nextStore_clear _ s _
  rw [exec_command hc, heff, ← hstore]
  rfl

/-- Settles O21: outside a session the guard of R132 lets the clear of `pending` through. -/
theorem newpktReadsAndClears : Obligations.NewpktReadsAndClears := by
  refine ⟨encodedAs_of_decodeOpcode (by decide) fun _ _ => rfl, fun s ha => ?_, fun s => exec_refused rfl rfl⟩
  have heff : commandEffect Config.params .newpkt s = { reply (zextFlag s.store.pending) with pendClr := true } :=
    ifOwner_of_inactive ha _
  rw [exec_of_pendClr rfl heff, zextFlag_eq]
  rfl

/-- Settles O22: the three reads are not mutating. -/
theorem storeReadsAnswerPreState : Obligations.StoreReadsAnswerPreState :=
  ⟨encodedAs_of_decodeOpcode (by decide) fun _ _ => rfl, encodedAs_of_decodeOpcode (by decide) fun _ _ => rfl,
    encodedAs_of_decodeOpcode (by decide) fun _ _ => rfl,
    fun _ => ⟨exec_of_not_mutating rfl rfl, exec_of_not_mutating rfl rfl, exec_of_not_mutating rfl rfl⟩⟩

end Sys2Proof.Proofs
end

section
/-! SUPPORT. Proofs of the statements about the trigger latches: the reads RDGO and RDRST (R97, R99), the clears CLRGO and
CLRRST (R98, R100), and the edges that set the latches (R94 to R96). -/

namespace Sys2Proof.Proofs

open Sys2Proof.Machine Sys2Proof.Safety Sys2Proof.Laws

/-! ### The merge of the two latches -/

theorem mergeFlag_set (clr old : Bool) : mergeFlag true clr old = true := by
  simp [mergeFlag_eq_true]

section
variable (ev : Events) (goClr rstClr : Bool) (l : TriggerLatches)

/-- R45, R98: a clear of the GO latch loses against a GO edge of its cycle, and leaves the RESET latch. -/
theorem nextLatches_clear_go :
    nextLatches ev true rstClr l = { nextLatches ev goClr rstClr l with goL := ev.goRise } := by
  simp [nextLatches, mergeFlag_clear]

/-- R45, R100: a clear of the RESET latch loses against a RESET edge of its cycle, and leaves the GO latch. -/
theorem nextLatches_clear_rst :
    nextLatches ev goClr true l = { nextLatches ev goClr rstClr l with rstL := ev.rstFall } := by
  simp [nextLatches, mergeFlag_clear]

/-- R94, R96: a GO edge wins against every clear, and leaves the RESET latch. -/
theorem nextLatches_goRise :
    nextLatches { ev with goRise := true } goClr rstClr l =
      { nextLatches { ev with goRise := false } goClr rstClr l with goL := true } := by
  simp [nextLatches, mergeFlag_set]

/-- R95, R96: a RESET edge wins against every clear, and leaves the GO latch. -/
theorem nextLatches_rstFall :
    nextLatches { ev with rstFall := true } goClr rstClr l =
      { nextLatches { ev with rstFall := false } goClr rstClr l with rstL := true } := by
  simp [nextLatches, mergeFlag_set]

end

/-! ### RDGO, RDRST, CLRGO and CLRRST -/

/-- Settles O23: the two reads are not mutating. -/
theorem latchReadsAnswerPreState : Obligations.LatchReadsAnswerPreState :=
  ⟨encodedAs_of_decodeOpcode (by decide) fun _ _ => rfl, encodedAs_of_decodeOpcode (by decide) fun _ _ => rfl,
    fun _ => ⟨exec_of_not_mutating rfl rfl, exec_of_not_mutating rfl rfl⟩⟩

section
variable {i : Instr} {s : State} (hc : i.isCommand = true)
include hc

/-- R98: a command that clears the GO latch, and does nothing else besides its response, acts on that latch alone. -/
theorem exec_of_goClr (heff : commandEffect Config.params i s = { reply 0 with goClr := true }) :
    exec i s = .next { quiet s with
      latches := { (quiet s).latches with goL := (detectEvents s).goRise }
      rsp := { valid := true, data := 0, err := .ok } } := by
  have hlatches : (commandCycle { reply 0 with goClr := true } s).latches =
      { (quiet s).latches with goL := (detectEvents s).goRise } := nextLatches_clear_go _ _ _ _
  rw [exec_command hc, heff, ← hlatches]
  rfl

/-- R100: a command that clears the RESET latch, and does nothing else besides its response, acts on that latch
alone. -/
theorem exec_of_rstClr (heff : commandEffect Config.params i s = { reply 0 with rstClr := true }) :
    exec i s = .next { quiet s with
      latches := { (quiet s).latches with rstL := (detectEvents s).rstFall }
      rsp := { valid := true, data := 0, err := .ok } } := by
  have hlatches : (commandCycle { reply 0 with rstClr := true } s).latches =
      { (quiet s).latches with rstL := (detectEvents s).rstFall } := nextLatches_clear_rst _ _ _ _
  rw [exec_command hc, heff, ← hlatches]
  rfl

end

/-- Settles O24: outside a session the guard of R132 lets both clears through, and inside one neither. -/
theorem latchClears : Obligations.LatchClears := by
  refine ⟨encodedAs_of_decodeOpcode (by decide) fun _ _ => rfl, encodedAs_of_decodeOpcode (by decide) fun _ _ => rfl,
    fun s ha => ⟨?_, ?_⟩, fun s ha => ⟨exec_refused rfl rfl ha, exec_refused rfl rfl ha⟩⟩
  · exact exec_of_goClr rfl (ifOwner_of_inactive ha _)
  · exact exec_of_rstClr rfl (ifOwner_of_inactive ha _)

/-! ### The edges -/

/-- R44: the GO and RESET edges reach the latches only; the bus events being the same, the rest of the cycle is. -/
theorem eventCycle_eq_of_bus {ev ev' : Events} (hclk : ev.clkRise = ev'.clkRise) (hdata : ev.dataBit = ev'.dataBit)
    (hlatch : ev.latchRise = ev'.latchRise) (s : State) :
    eventCycle ev s = { eventCycle ev' s with latches := (eventCycle ev s).latches } := by
  simp [eventCycle, cycle, nextAcc, captured, clocked, hclk, hdata, hlatch]

/-- Settles O34: the cycles with and without the edge differ in the latches, and there in the edge's own. -/
theorem triggerEdgesSetLatches : Obligations.TriggerEdgesSetLatches := by
  intro s
  rw [exec_event _ s rfl, exec_event _ s rfl]
  refine ⟨congrArg Host.Outcome.next ?_, congrArg Host.Outcome.next ?_⟩
  · have hlatches : (eventCycle (eventsDuring .goRise s) s).latches =
        { (withoutGo s).latches with goL := true } := nextLatches_goRise _ _ _ _
    rw [← hlatches]
    exact eventCycle_eq_of_bus rfl rfl rfl s
  · have hlatches : (eventCycle (eventsDuring .resetFall s) s).latches =
        { (withoutReset s).latches with rstL := true } := nextLatches_rstFall _ _ _ _
    rw [← hlatches]
    exact eventCycle_eq_of_bus rfl rfl rfl s

end Sys2Proof.Proofs
end

section
/-! SUPPORT. Proofs of the statements about the FSM's states, one by one (R105 to R113): the row of the transition table
whose condition holds is what the FSM contributes, and inside a session it is all that a cycle writes to the FSM's
registers, the enable, the latches and `pending`. -/

namespace Sys2Proof.Proofs

open Sys2Proof.Machine Sys2Proof.Safety Sys2Proof.Laws

variable {i : Input} {ev : Events} {c : Option Instr} {s t : State} {e : FsmEffect}

/-! ### The row of a state -/

/-- R123: the conditions of the rows exclude each other, so that a row whose condition holds is the one taken. -/
theorem FsmRow.fsmEffect_eq (h : FsmRow i s e) : fsmEffect Config.params i s = e := by
  cases h with
  | still hf => rcases hf with hf | hf <;> simp [fsmEffect, hf]
  | unusedToIdle hf => simp [fsmEffect, hf]
  | goSkipsBurn hf hgo hskip => simp [fsmEffect, hf, fsmAwaitGo, hgo, hskip]
  | goBurns hf hgo hskip => simp [fsmEffect, hf, fsmAwaitGo, hgo, hskip]
  | goTests hf hgo => simp [fsmEffect, hf, fsmAwaitGoTest, hgo]
  | waitAborted hf hgo hrst hreq =>
    rcases hf with hf | hf <;> simp [fsmEffect, hf, fsmAwaitGo, fsmAwaitGoTest, hgo, hrst, hreq]
  | waitBlinks hf hgo hrst =>
    rcases hf with hf | hf <;> simp [fsmEffect, hf, fsmAwaitGo, fsmAwaitGoTest, hgo, hrst, blinkStep_eq]
  | attemptGoesOn hf hdone => simp [fsmEffect, hf, fsmBurnFlash, hdone]
  | attemptAborted hf hdone hrst => simp [fsmEffect, hf, fsmBurnFlash, hdone, hrst]
  | attemptSucceeded hf hdone hrst hok => simp [fsmEffect, hf, fsmBurnFlash, hdone, hrst, hok, fsmHold, pulsesOff]
  | attemptFailed hf hdone hrst hok hmore => simp [fsmEffect, hf, fsmBurnFlash, hdone, hrst, hok, hmore]
  | lastAttemptFailed hf hdone hrst hok hlast => simp [fsmEffect, hf, fsmBurnFlash, hdone, hrst, hok, hlast]
  | delayAborted hf hrst => simp [fsmEffect, hf, fsmBurnDelay, hrst]
  | delayEnds hf hrst hend => simp [fsmEffect, hf, fsmBurnDelay, hrst, tickReaches_eq_true, hend]
  | delayCounts hf hrst hgoes =>
    have hburn : fsmEffect Config.params i s = fsmBurnDelay Config.params i s := by simp [fsmEffect, hf]
    rw [hburn, fsmBurnDelay]
    obtain ⟨hzero, hearly⟩ := not_or.1 hgoes
    cases htick : i.tick with
    | true =>
      simp only [htick, true_and] at hearly
      simp [hrst, hzero, tickReaches, hearly]
    | false =>
      simp [hrst, hzero, fsmHold]
  | testingEnds hf hrst => simp [fsmEffect, hf, fsmTesting, hrst]
  | frameShown hf hrst hpend hchg =>
    simp [fsmEffect, hf, fsmTesting, hrst, hpend, (changed_eq_true s.store).2 hchg, blinkStep_eq]
  | frameRepeated hf hrst hpend hchg => simp [fsmEffect, hf, fsmTesting, hrst, hpend, changed, hchg, blinkStep_eq]
  | noFrame hf hrst hpend => simp [fsmEffect, hf, fsmTesting, hrst, hpend, blinkStep_eq, watchdogStep_eq]

/-- What a cycle with `e` as the FSM's contribution writes, the command port writing nothing but the response. -/
structure RowTaken (ev : Events) (e : FsmEffect) (s t : State) : Prop where
  orch : t.orch = e.orch
  out : t.out = e.out
  en : t.sampler.en = e.enWrite.getD s.sampler.en
  latches : t.latches = nextLatches ev e.goClr e.rstClr s.latches
  pending : t.store.pending = mergeFlag (captures ev s) e.pendClr s.store.pending

/-- R132: inside a session the FSM's row is all that a cycle writes. -/
theorem rowTaken_of_cycle (h : Safety.Cycle ev c s t) (ha : sessionActive s = true) (row : FsmRow (sample s) s e) :
    RowTaken ev e s t := by
  obtain ⟨r, rfl⟩ := cycle_inside_session ev c s t h ha
  constructor <;> simp [row.fsmEffect_eq, nextEn, nextStore, captured_isSome]

/-- R45 for the two latches, by the clears of the cycle. -/
theorem nextLatches_eq (ev : Events) (goClr rstClr : Bool) (l : TriggerLatches) :
    nextLatches ev goClr rstClr l =
      { goL := ev.goRise || (!goClr && l.goL), rstL := ev.rstFall || (!rstClr && l.rstL) } := by
  have merge (set clr old : Bool) : mergeFlag set clr old = (set || (!clr && old)) := by
    cases clr <;> simp [mergeFlag_clear, mergeFlag_no_clear]
  simp [nextLatches, merge]

/-- R33: what the FSM writes to the pulse registers before any rule sets one. -/
theorem pulsesOff_eq (s : State) : pulsesOff s.out = noPulses s := rfl

/-! ### Outside a session -/

/-- R105, R112, R113: outside a session no pulse is set. -/
theorem out_of_cycle_inactive (h : Safety.Cycle ev c s t) (ha : sessionActive s = false) : t.out = noPulses s := by
  rw [out_of_cycle h, fsmEffect_inactive _ _ _ ha]
  rfl

/-- R125: an accepted START enters `AWAIT_GO`. -/
theorem fsm_of_start (h : Safety.Cycle ev c s t) (hs : startAccepted c s) : t.orch.fsm = .awaitGo := by
  obtain ⟨skip, go, hacc⟩ := hs
  rw [orch_of_start h hacc, startSession_fsm]

/-- Settles O35: in both states the FSM's row holds the registers. -/
theorem idleAndDoneHold : Obligations.IdleAndDoneHold := by
  intro ev c s t h hf
  have ha : sessionActive s = false := (sessionActive_eq_false s).2 (by tauto)
  refine ⟨by rcases hf with hf | hf <;> simp [led, hf], out_of_cycle_inactive h ha, fun hs => ?_, fsm_of_start h⟩
  rw [orch_of_not_start h hs, (FsmRow.still hf).fsmEffect_eq, fsmHold_orch]

/-- Settles O41: the row of state 7 leads to `IDLE`. -/
theorem unusedStateGoesToIdle : Obligations.UnusedStateGoesToIdle := by
  intro ev c s t h hf
  have ha : sessionActive s = false := (sessionActive_eq_false s).2 (.inr (.inr hf))
  refine ⟨ha, by simp [led, hf], out_of_cycle_inactive h ha, fun hs => ?_, fsm_of_start h⟩
  rw [orch_of_not_start h hs, (FsmRow.unusedToIdle hf).fsmEffect_eq]

/-! ### Waiting for GO -/

/-- Settles O36: the four cases are the rows of `AWAIT_GO`. -/
theorem awaitGoTransitions : Obligations.AwaitGoTransitions := by
  intro ev c s t _ h hf
  have ha : sessionActive s = true := (sessionActive_eq_true s).2 (.inl hf)
  refine ⟨fun hgo hskip => ?_, fun hgo hskip => ?_, fun hgo hrst hreq => ?_, fun hgo hno => ?_⟩
  · have taken := rowTaken_of_cycle h ha (.goSkipsBurn hf hgo hskip)
    exact ⟨taken.orch, taken.en, taken.out, by simp [taken.latches, nextLatches_eq]⟩
  · have taken := rowTaken_of_cycle h ha (.goBurns hf hgo hskip)
    exact ⟨taken.orch, taken.en, taken.out, by simp [taken.latches, nextLatches_eq]⟩
  · have taken := rowTaken_of_cycle h ha (.waitAborted (.inl hf) hgo hrst hreq)
    exact ⟨taken.orch, taken.en, taken.out, by simp [taken.latches, nextLatches_eq, hgo]⟩
  · have taken := rowTaken_of_cycle h ha (.waitBlinks (.inl hf) hgo hno)
    exact ⟨taken.orch, taken.en, taken.out, by simp [taken.latches, nextLatches_eq, hgo]⟩

/-- R110: no row of `AWAIT_GO_TEST` sets a pulse. -/
theorem FsmRow.out_of_awaitGoTest (h : FsmRow i s e) (hf : s.orch.fsm = .awaitGoTest) : e.out = noPulses s := by
  cases h <;> simp_all [pulsesOff_eq]

/-- Settles O39: the three cases are the rows of `AWAIT_GO_TEST`. -/
theorem awaitGoTestTransitions : Obligations.AwaitGoTestTransitions := by
  intro ev c s t _ h hf
  have ha : sessionActive s = true := by simp [sessionActive_eq_true, hf]
  refine ⟨(out_of_cycle h).trans ((fsmEffect_row _ s).out_of_awaitGoTest hf), fun hgo => ?_, fun hgo hrst hreq => ?_,
    fun hgo hno => ?_⟩
  · have taken := rowTaken_of_cycle h ha (.goTests hf hgo)
    exact ⟨taken.orch, taken.en, by simp [taken.latches, nextLatches_eq]⟩
  · have taken := rowTaken_of_cycle h ha (.waitAborted (.inr hf) hgo hrst hreq)
    exact ⟨taken.orch, taken.en, by simp [taken.latches, nextLatches_eq, hgo]⟩
  · have taken := rowTaken_of_cycle h ha (.waitBlinks (.inr hf) hgo hno)
    exact ⟨taken.orch, taken.en, by simp [taken.latches, nextLatches_eq, hgo]⟩

/-! ### Burning -/

/-- R36, R85: the FSM writes the enable on entry to and exit from `TESTING`, which no BURN state's row is. -/
theorem FsmRow.enWrite_of_burn (h : FsmRow i s e) (hf : s.orch.fsm = .burnFlash ∨ s.orch.fsm = .burnDelay) :
    e.enWrite = none := by
  cases h <;> simp_all

theorem en_of_cycle_burn (h : Safety.Cycle ev c s t) (hf : s.orch.fsm = .burnFlash ∨ s.orch.fsm = .burnDelay) :
    t.sampler.en = s.sampler.en := by
  have ha : sessionActive s = true := (sessionActive_eq_true s).2 (by tauto)
  rw [en_of_cycle_active h ha, (fsmEffect_row (sample s) s).enWrite_of_burn hf, Option.getD_none]

theorem led_of_burn (p : Params) (hf : s.orch.fsm = .burnFlash ∨ s.orch.fsm = .burnDelay) : led p s = 0x00 := by
  rcases hf with hf | hf <;> simp [led, hf]

/-- Settles O37: the cases are the rows of `BURN_FLASH`. -/
theorem burnFlashTransitions : Obligations.BurnFlashTransitions := by
  intro ev c s t h hf
  have ha : sessionActive s = true := by simp [sessionActive_eq_true, hf]
  refine ⟨(flashEn_eq_true s).2 (.inl hf), led_of_burn _ (.inl hf), en_of_cycle_burn h (.inl hf),
    fun hdone hrst => ?_, fun hdone hrst hok => ?_, fun hdone hrst hok => ?_, fun hdone => ?_⟩
  · have taken := rowTaken_of_cycle h ha (.attemptAborted hf hdone hrst)
    exact ⟨taken.orch, taken.out, by simp [taken.latches, nextLatches_eq]⟩
  · have taken := rowTaken_of_cycle h ha (.attemptSucceeded hf hdone hrst hok)
    exact ⟨taken.orch, taken.out, by simp [flashEn, taken.orch], by simp [taken.latches, nextLatches_eq, hrst]⟩
  · by_cases hmore : s.orch.attempts.toNat < Config.params.maxFlashAttempts
    · have taken := rowTaken_of_cycle h ha (.attemptFailed hf hdone hrst hok hmore)
      exact ⟨taken.out, by simp [taken.latches, nextLatches_eq, hrst], fun _ => taken.orch,
        fun hlast => absurd hmore hlast⟩
    · have taken := rowTaken_of_cycle h ha (.lastAttemptFailed hf hdone hrst hok hmore)
      exact ⟨taken.out, by simp [taken.latches, nextLatches_eq, hrst], fun hlt => absurd hlt hmore,
        fun _ => ⟨taken.orch, by simp [flashEn, taken.orch]⟩⟩
  · have taken := rowTaken_of_cycle h ha (.attemptGoesOn hf hdone)
    exact ⟨taken.orch, taken.out, by simp [taken.latches, nextLatches_eq]⟩

/-- Settles O38: RESET, the end of the delay, and else the count of its ticks, are the rows of `BURN_DELAY`. -/
theorem burnDelayTransitions : Obligations.BurnDelayTransitions := by
  intro ev c s t _ h hf
  have ha : sessionActive s = true := by simp [sessionActive_eq_true, hf]
  refine ⟨(flashEn_eq_true s).2 (.inr hf), led_of_burn _ (.inr hf), en_of_cycle_burn h (.inr hf),
    fun hrst => ?_, fun hrst => ?_⟩
  · have taken := rowTaken_of_cycle h ha (.delayAborted hf hrst)
    exact ⟨taken.orch, taken.out, by simp [taken.latches, nextLatches_eq]⟩
  · by_cases hend : Config.params.retryDelayTicks = 0 ∨
        ((sample s).tick = true ∧ s.orch.dlyCnt.toNat + 1 ≥ Config.params.retryDelayTicks)
    · have taken := rowTaken_of_cycle h ha (.delayEnds hf hrst hend)
      exact ⟨by simp [taken.latches, nextLatches_eq, hrst], by rw [taken.orch, if_pos hend]; rfl,
        by simp [taken.out, taken.orch, pulsesOff_eq]⟩
    · have taken := rowTaken_of_cycle h ha (.delayCounts hf hrst hend)
      refine ⟨by simp [taken.latches, nextLatches_eq, hrst], ?_,
        by simp [taken.out, taken.orch, hf, pulsesOff_eq, noPulses]⟩
      rw [taken.orch, if_neg hend]
      split <;> rfl

/-! ### Testing -/

/-- Settles O40. A pending frame, a tick without one and neither are the cases of a cycle without RESET. -/
theorem testingTransitions : Obligations.TestingTransitions := by
  intro ev c s t _ h hf
  have ha : sessionActive s = true := by simp [sessionActive_eq_true, hf]
  refine ⟨fun hrst => ?_, fun hrst => ?_⟩
  · have taken := rowTaken_of_cycle h ha (.testingEnds hf hrst)
    exact ⟨taken.orch, taken.en, taken.out, by simp [taken.latches, nextLatches_eq],
      by simp [taken.pending, mergeFlag_no_clear]⟩
  · cases hpend : s.store.pending with
    | true =>
      by_cases hchg : s.store.cur = s.store.last
      · have taken := rowTaken_of_cycle h ha (.frameRepeated hf hrst hpend hchg)
        exact ⟨by simp [taken.latches, nextLatches_eq, hrst], taken.en, by simp [taken.pending, mergeFlag_clear],
          fun _ => ⟨taken.orch, by simp [taken.out, hchg, pulsesOff_eq]⟩, nofun, nofun⟩
      · have taken := rowTaken_of_cycle h ha (.frameShown hf hrst hpend hchg)
        exact ⟨by simp [taken.latches, nextLatches_eq, hrst], taken.en, by simp [taken.pending, mergeFlag_clear],
          fun _ => ⟨taken.orch, by simp [taken.out, hchg, pulsesOff_eq]⟩, nofun, nofun⟩
    | false =>
      have taken := rowTaken_of_cycle h ha (.noFrame hf hrst hpend)
      refine ⟨by simp [taken.latches, nextLatches_eq, hrst], taken.en, by simp [taken.pending, mergeFlag_clear],
        nofun, fun _ htick => ?_, fun _ htick => ?_⟩
      · simp [taken.orch, taken.out, htick, pulsesOff_eq]
      · simp [taken.orch, taken.out, htick, pulsesOff_eq, blinked, noPulses]

end Sys2Proof.Proofs
end

section
/-! SUPPORT. Proofs of the statements about the FSM as a whole: the table's transitions (R102, R123), the exits from the
BURN states (R119), the order of flasher and sampler (R107, R120), the limits of the counters (R109, R114, R116) and of
the attempts (R121), and an attempt without an answer (R122). -/

namespace Sys2Proof.Proofs

open Sys2Proof.Machine Sys2Proof.Safety Sys2Proof.Laws

variable {i : Input} {ev : Events} {c : Option Instr} {s t : State} {e : FsmEffect}

/-- R36, R123: in a cycle without an accepted START the FSM's registers take a row of the table. -/
theorem row_of_cycle (h : Safety.Cycle ev c s t) (hs : ¬ startAccepted c s) :
    ∃ e, FsmRow (sample s) s e ∧ t.orch = e.orch :=
  ⟨_, fsmEffect_row (sample s) s, orch_of_not_start h hs⟩

/-! ### The counters -/

theorem toNat_add_one_le {n : Nat} (x : BitVec n) : (x + 1).toNat ≤ x.toNat + 1 := by
  rw [BitVec.toNat_add]
  exact (Nat.mod_le _ _).trans (Nat.add_le_add_left (by simpa using Nat.mod_le 1 (2 ^ n)) _)

/-- R114: a blink counter below its limit stays below it. -/
theorem blinked_blinkCnt_lt {tick : Bool} {o : Orchestration} (h : o.blinkCnt.toNat < Config.params.blinkTicks) :
    (blinked tick o).blinkCnt.toNat < Config.params.blinkTicks := by
  unfold blinked
  split
  · split
    · exact blinkTicks_pos
    next hlt => exact (toNat_add_one_le _).trans_lt (Nat.lt_of_not_ge hlt)
  · exact h

@[simp] theorem blinked_wdCnt (tick : Bool) (o : Orchestration) : (blinked tick o).wdCnt = o.wdCnt := by
  obtain ⟨_, _, h⟩ := blinked_eq tick o
  rw [h]
@[simp] theorem blinked_dlyCnt (tick : Bool) (o : Orchestration) : (blinked tick o).dlyCnt = o.dlyCnt := by
  obtain ⟨_, _, h⟩ := blinked_eq tick o
  rw [h]

/-- The counter invariant, on the FSM's registers. -/
def CountersLegal (o : Orchestration) : Prop :=
  o.blinkCnt.toNat < Config.params.blinkTicks ∧
  o.wdCnt.toNat < Config.params.watchdogTicks ∧
  o.attempts.toNat ≤ Config.params.maxFlashAttempts ∧
  (o.fsm = .burnDelay → o.attempts.toNat < Config.params.maxFlashAttempts) ∧
  (o.fsm = .burnDelay → o.dlyCnt = 0 ∨ o.dlyCnt.toNat < Config.params.retryDelayTicks)

theorem counterInvariant_iff (s : State) : CounterInvariant Config.params s ↔ CountersLegal s.orch := .rfl

theorem startSession_countersLegal (skip go : Bool) (o : Orchestration) : CountersLegal (startSession skip go o) :=
  ⟨blinkTicks_pos, watchdogTicks_pos, Nat.zero_le _, nofun, nofun⟩

/-- R114: every row resets the blink counter, keeps it or takes the blink step. -/
theorem FsmRow.blinkCnt_lt (h : FsmRow i s e) (hs : s.orch.blinkCnt.toNat < Config.params.blinkTicks) :
    e.orch.blinkCnt.toNat < Config.params.blinkTicks := by
  cases h with
  | waitBlinks => exact blinked_blinkCnt_lt hs
  | frameShown => exact blinked_blinkCnt_lt hs
  | frameRepeated => exact blinked_blinkCnt_lt hs
  | noFrame => exact blinked_blinkCnt_lt hs
  | _ => simp [hs, blinkTicks_pos]

/-- R116: every row resets the watchdog counter, keeps it or takes the watchdog step. -/
theorem FsmRow.wdCnt_lt (h : FsmRow i s e) (hs : s.orch.wdCnt.toNat < Config.params.watchdogTicks) :
    e.orch.wdCnt.toNat < Config.params.watchdogTicks := by
  have hpos := watchdogTicks_pos
  cases h with
  | noFrame =>
    have hstep := toNat_add_one_le s.orch.wdCnt
    simp only [blinked_wdCnt]
    split_ifs
    · exact hpos
    · omega
    · exact hs
  | _ => simp [hs, hpos]

/-- R28, R109: an attempt is counted on entry to `BURN_FLASH`, from `BURN_DELAY` with attempts left. -/
theorem FsmRow.attempts_le (h : FsmRow i s e) (hs : s.orch.attempts.toNat ≤ Config.params.maxFlashAttempts)
    (hdelay : s.orch.fsm = .burnDelay → s.orch.attempts.toNat < Config.params.maxFlashAttempts) :
    e.orch.attempts.toNat ≤ Config.params.maxFlashAttempts := by
  cases h with
  | goBurns => exact maxFlashAttempts_pos
  | delayEnds hf => exact (toNat_add_one_le _).trans (hdelay hf)
  | _ => simpa using hs

/-- R108, R109: `BURN_DELAY` is entered with attempts left, and keeps their number. -/
theorem FsmRow.attempts_lt_of_burnDelay (h : FsmRow i s e)
    (hdelay : s.orch.fsm = .burnDelay → s.orch.attempts.toNat < Config.params.maxFlashAttempts)
    (he : e.orch.fsm = .burnDelay) : e.orch.attempts.toNat < Config.params.maxFlashAttempts := by
  cases h <;> simp_all

/-- R109: the delay counter is 0 on entry to `BURN_DELAY`, and counts while its next value is below the limit. -/
theorem FsmRow.dlyCnt_legal (h : FsmRow i s e)
    (hdelay : s.orch.fsm = .burnDelay → s.orch.dlyCnt = 0 ∨ s.orch.dlyCnt.toNat < Config.params.retryDelayTicks)
    (he : e.orch.fsm = .burnDelay) : e.orch.dlyCnt = 0 ∨ e.orch.dlyCnt.toNat < Config.params.retryDelayTicks := by
  cases h with
  | delayCounts hf hrst hgoes =>
    obtain ⟨hzero, hearly⟩ := not_or.1 hgoes
    by_cases htick : i.tick = true
    · have hstep := toNat_add_one_le s.orch.dlyCnt
      have hlt := Nat.lt_of_not_ge fun hge => hearly ⟨htick, hge⟩
      exact .inr (by simpa [htick] using hstep.trans_lt hlt)
    · simpa [htick] using hdelay hf
  | attemptFailed => exact .inl rfl
  | _ => simp_all

theorem FsmRow.countersLegal (h : FsmRow i s e) (hs : CountersLegal s.orch) : CountersLegal e.orch := by
  obtain ⟨hblink, hwd, hatt, hmore, hdly⟩ := hs
  exact ⟨h.blinkCnt_lt hblink, h.wdCnt_lt hwd, h.attempts_le hatt hmore, h.attempts_lt_of_burnDelay hmore,
    h.dlyCnt_legal hdly⟩

/-- Every cycle keeps the counter invariant: START clears the counters, and every row of the FSM keeps them legal. -/
theorem counterInvariant_of_cycle (h : Safety.Cycle ev c s t) (hs : CounterInvariant Config.params s) :
    CounterInvariant Config.params t := by
  rw [counterInvariant_iff] at hs ⊢
  by_cases hstart : startAccepted c s
  · obtain ⟨skip, go, hacc⟩ := hstart
    rw [orch_of_start h hacc]
    exact startSession_countersLegal _ _ _
  · obtain ⟨e, hrow, horch⟩ := row_of_cycle h hstart
    exact horch ▸ hrow.countersLegal hs

/-- Settles O49: a step without reset and a run of one instruction are cycles; a reset cycle ends in the reset state. -/
theorem counterInvariantKept : Obligations.CounterInvariantKept := by
  refine ⟨fun s t hs h => ?_, fun i s t hs h => counterInvariant_of_cycle (cycle_of_exec h) hs⟩
  rcases step_cases s t h with ⟨hr, -⟩ | ⟨-, rfl⟩
  · exact counterInvariant_of_cycle (cycle_of_step hr h) hs
  · exact resetMeetsInvariants.2

/-! ### Transitions -/

/-- Settles O42: each row of the table leads to a state that the statement lists. -/
theorem sequenceOfStates : Obligations.SequenceOfStates := by
  intro ev c s t h
  refine ⟨fsm_of_start h, fun hs => ?_⟩
  obtain ⟨e, hrow, horch⟩ := row_of_cycle h hs
  rw [horch]
  cases hrow with
  | still hf => rcases hf with hf | hf <;> simp [hf]
  | waitAborted hf => rcases hf with hf | hf <;> simp [hf]
  | waitBlinks hf => rcases hf with hf | hf <;> simp [hf]
  | _ => simp_all

/-- R119: the rows that leave the BURN states. -/
theorem FsmRow.burn_exit (h : FsmRow i s e) (hf : s.orch.fsm = .burnFlash ∨ s.orch.fsm = .burnDelay)
    (hflash : e.orch.fsm ≠ .burnFlash) (hdelay : e.orch.fsm ≠ .burnDelay) :
    (e.orch.fsm = .awaitGoTest ∧ s.orch.fsm = .burnFlash ∧ i.flashDone = true ∧ i.flashOk = true) ∨
    (e.orch.fsm = .done ∧ e.orch.result = .flashFail ∧ s.orch.fsm = .burnFlash ∧ i.flashDone = true ∧
      i.flashOk = false ∧ Config.params.maxFlashAttempts ≤ s.orch.attempts.toNat) ∨
    (e.orch.fsm = .done ∧ e.orch.result = .aborted ∧ s.latches.rstL = true) := by
  cases h with
  | attemptSucceeded hf hdone _ hok => exact .inl ⟨rfl, hf, hdone, hok⟩
  | lastAttemptFailed hf hdone _ hok hlast => exact .inr (.inl ⟨rfl, rfl, hf, hdone, hok, Nat.le_of_not_lt hlast⟩)
  | attemptAborted _ _ hrst => exact .inr (.inr ⟨rfl, rfl, hrst⟩)
  | delayAborted _ hrst => exact .inr (.inr ⟨rfl, rfl, hrst⟩)
  | _ => simp_all

/-- Settles O45: `flash_en` is 1 in the BURN states and nowhere else. -/
theorem burnExitsReleaseFlasher : Obligations.BurnExitsReleaseFlasher := by
  intro ev c s t h hf hflash hdelay
  have ha : sessionActive s = true := (sessionActive_eq_true s).2 (by tauto)
  obtain ⟨e, hrow, horch⟩ := row_of_cycle h (not_startAccepted_of_active ha)
  refine ⟨(flashEn_eq_true s).2 hf, by simpa [hflash, hdelay] using (flashEn_eq_true t).not, ?_⟩
  rw [horch] at hflash hdelay ⊢
  exact hrow.burn_exit hf hflash hdelay

/-- R104: the rows that enter `TESTING`. -/
theorem FsmRow.testing_entry (h : FsmRow i s e) (hf : s.orch.fsm ≠ .testing) (he : e.orch.fsm = .testing) :
    s.orch.fsm = .awaitGo ∨ s.orch.fsm = .awaitGoTest := by
  cases h with
  | goSkipsBurn hf => exact .inl hf
  | goTests hf => exact .inr hf
  | _ => simp_all

theorem testing_entry_of_cycle (h : Safety.Cycle ev c s t) (hf : s.orch.fsm ≠ .testing) (ht : t.orch.fsm = .testing) :
    s.orch.fsm = .awaitGo ∨ s.orch.fsm = .awaitGoTest := by
  have hs : ¬ startAccepted c s := fun hs => by simp [fsm_of_start h hs] at ht
  obtain ⟨e, hrow, horch⟩ := row_of_cycle h hs
  exact hrow.testing_entry hf (horch ▸ ht)

/-- R71: `pin_sel` is (`en`, `flash_en`). -/
theorem pinSel_eq_01_iff (s : State) : pinSel s = 0b01 ↔ s.sampler.en = false ∧ flashEn s = true := by
  unfold pinSel
  cases s.sampler.en <;> cases flashEn s <;> decide

theorem pinSel_of_disabled (h : s.sampler.en = false) : pinSel s = 0b01 ∨ pinSel s = 0b00 := by
  unfold pinSel
  rw [h]
  cases flashEn s <;> decide

/-- Settles O46: the waiting states have neither enable set, and a cycle from a BURN state keeps the sampler's. -/
theorem samplerEnabledAfterRelease : Obligations.SamplerEnabledAfterRelease := by
  refine ⟨fun ev c s t hinv h hf ht => ?_, fun ev c s t _ h hpin => ?_⟩
  · obtain ⟨-, ⟨hen, -⟩, -⟩ := (sessionInvariant_iff s).1 hinv
    have hwait := testing_entry_of_cycle h hf ht
    refine ⟨hwait, ?_, Bool.eq_false_iff.2 fun h1 => ?_⟩
    · rcases hwait with hs | hs <;> simp [flashEn, hs]
    · rcases hwait with hs | hs <;> simpa [hs] using hen h1
  · obtain ⟨hen, hflash⟩ := (pinSel_eq_01_iff s).1 hpin
    exact pinSel_of_disabled ((en_of_cycle_burn h ((flashEn_eq_true s).1 hflash)).trans hen)

/-- Settles O51: the session invariant says which states a session with skip-burn cannot be in. -/
theorem skipBurnNeverFlashes : Obligations.SkipBurnNeverFlashes := by
  refine ⟨fun ev c s t h hf hskip hgo => ?_, fun s hreach hskip => ?_⟩
  · have ha : sessionActive s = true := (sessionActive_eq_true s).2 (.inl hf)
    rw [(rowTaken_of_cycle h ha (.goSkipsBurn hf hgo hskip)).orch, enterTesting_orch]
  · obtain ⟨⟨-, -, hlegal, -⟩, -⟩ := (sessionInvariant_iff s).1 (sessionInvariant_of_reachable hreach)
    obtain ⟨hflash, hdelay, hwait, -⟩ := hlegal hskip
    exact ⟨hflash, hdelay, hwait, by simpa [hflash, hdelay] using (flashEn_eq_true s).not⟩

/-! ### The attempts of a session -/

/-- After `n` attempts of a session: `attempts` is their number, 0 before the first, and `BURN_DELAY` has one left. -/
structure AttemptsCounted (n : Nat) (o : Orchestration) : Prop where
  count : o.attempts.toNat = n
  bound : n ≤ Config.params.maxFlashAttempts
  first : o.fsm = .awaitGo → n = 0
  delay : o.fsm = .burnDelay → n < Config.params.maxFlashAttempts

/-- R121: the rows that set `flash_start` count the attempt, and the others start none. -/
theorem FsmRow.attemptsCounted {n : Nat} (h : FsmRow i s e) (hs : AttemptsCounted n s.orch) :
    AttemptsCounted (if e.out.flashStart then n + 1 else n) e.orch := by
  obtain ⟨hcount, hbound, hfirst, hdelay⟩ := hs
  cases h with
  | goBurns hf =>
    obtain rfl : n = 0 := hfirst hf
    exact ⟨rfl, maxFlashAttempts_pos, nofun, nofun⟩
  | delayEnds hf =>
    have hlt := hdelay hf
    have hmax := maxFlashAttempts_le
    have hsucc : (s.orch.attempts + 1).toNat = n + 1 := by
      rw [BitVec.toNat_add, hcount]
      exact Nat.mod_eq_of_lt (by simp; omega)
    exact ⟨hsucc, hlt, nofun, nofun⟩
  | attemptFailed hf _ _ _ hmore => exact ⟨hcount, hbound, nofun, fun _ => hcount ▸ hmore⟩
  | _ => constructor <;> simp_all

theorem attemptsCounted_of_sessionRun {n : Nat} (h : SessionRun n s) : AttemptsCounted n s.orch := by
  induction h with
  | begin s hf hatt => exact ⟨by simp [hatt], Nat.zero_le _, fun _ => rfl, by simp [hf]⟩
  | step n s t _ ha hr h ih =>
    have hcyc := cycle_of_step hr h
    rw [out_of_cycle hcyc, orch_of_not_start hcyc (not_startAccepted_of_active ha)]
    exact (fsmEffect_row _ s).attemptsCounted ih

/-- Settles O52, by induction on the session; the failure of the last attempt is a row of `BURN_FLASH`. -/
theorem attemptsPerSessionBounded : Obligations.AttemptsPerSessionBounded := by
  refine ⟨fun n s h => ?_, fun s t hf hlast hr hdone hok hrst h => ?_⟩
  · have hcounted := attemptsCounted_of_sessionRun h
    exact ⟨hcounted.bound, hcounted.count⟩
  · have ha : sessionActive s = true := by simp [sessionActive_eq_true, hf]
    have taken := rowTaken_of_cycle (cycle_of_step hr h) ha
      (.lastAttemptFailed hf hdone hrst hok (Nat.not_lt.2 hlast))
    simp [taken.orch, taken.out]

/-! ### An attempt without an answer -/

/-- R122: a cycle of `BURN_FLASH` without `flash_done` stays there, and clears no latch. -/
theorem step_of_attempt (hf : s.orch.fsm = .burnFlash) (hr : (sample s).rstN = true)
    (hdone : (sample s).flashDone = false) :
    ∃ t, step s = .next t ∧ t.orch.fsm = .burnFlash ∧ t.env = nextEnv s.env ∧
      (s.latches.rstL = true → t.latches.rstL = true) := by
  have ha : sessionActive s = true := by simp [sessionActive_eq_true, hf]
  have h := step_eq_eventCycle s hr
  have taken := rowTaken_of_cycle (cycle_of_step hr h) ha (.attemptGoesOn hf hdone)
  exact ⟨_, h, by simp [taken.orch, hf], rfl, fun hrst => by simp [taken.latches, nextLatches_eq, hrst]⟩

/-- Settles O53, by induction on the number of samples. -/
theorem noTimeoutOnAttempt : Obligations.NoTimeoutOnAttempt := by
  intro n
  induction n with
  | zero => exact fun s hf _ _ => ⟨s, rfl, hf, id⟩
  | succ n ih =>
    intro s hf hlen hquiet
    cases hstim : s.env.stim with
    | nil => simp [hstim] at hlen
    | cons i rest =>
      simp only [hstim, List.take_succ_cons, List.forall_mem_cons, List.length_cons] at hlen hquiet
      obtain ⟨⟨hr, hdone⟩, hrest⟩ := hquiet
      have hsample : sample s = i := sample_cons s i rest hstim
      obtain ⟨t, hstep, ht, henv, hrst⟩ := step_of_attempt hf (hsample ▸ hr) (hsample ▸ hdone)
      have hstim' : t.env.stim = rest := by simp [henv, nextEnv, hstim]
      obtain ⟨u, hrun, hu, hrst'⟩ := ih t ht (by rw [hstim']; omega) (hstim' ▸ hrest)
      exact ⟨u, (run_succ n s t hstep).trans hrun, hu, hrst' ∘ hrst⟩

end Sys2Proof.Proofs
end

section
/-! SUPPORT. Proofs of the statements about what the FSM does not depend on: the watchdog's counter informs only (R117),
and the flasher's answer and `tick` are read only in the states that use them (R118, R137). -/

namespace Sys2Proof.Proofs

open Sys2Proof.Machine Sys2Proof.Safety Sys2Proof.Laws

variable {i : Input} {s : State} {e : FsmEffect}

/-! ### The watchdog -/

/-- The state that differs from `s` in the watchdog's counter. -/
def withWdCnt (s : State) (w : Word) : State := { s with orch := { s.orch with wdCnt := w } }

/-- The contribution of the FSM that differs from `e` in the watchdog's counter and its pulse. -/
def withWatchdog (e : FsmEffect) (w : Word) (warn : Bool) : FsmEffect :=
  { e with orch := { e.orch with wdCnt := w }, out := { e.out with silenceWarn := warn } }

/-- R114: the blink step does not read the watchdog's counter. -/
theorem blinked_with_wdCnt (tick : Bool) (o : Orchestration) (w : Word) :
    blinked tick { o with wdCnt := w } = { blinked tick o with wdCnt := w } := by
  unfold blinked
  split
  · split <;> rfl
  · rfl

/-- R117: with another count of the watchdog the same row is taken, and differs in that count and the warning. -/
theorem FsmRow.withWdCnt (h : FsmRow i s e) (w : Word) :
    ∃ w' warn, FsmRow i (withWdCnt s w) (withWatchdog e w' warn) := by
  cases h with
  | still hf => exact ⟨w, false, .still hf⟩
  | unusedToIdle hf => exact ⟨w, false, .unusedToIdle hf⟩
  | goSkipsBurn hf hgo hskip => exact ⟨0, false, .goSkipsBurn hf hgo hskip⟩
  | goBurns hf hgo hskip => exact ⟨w, false, .goBurns hf hgo hskip⟩
  | goTests hf hgo => exact ⟨0, false, .goTests hf hgo⟩
  | waitAborted hf hgo hrst hreq => exact ⟨w, false, .waitAborted hf hgo hrst hreq⟩
  | waitBlinks hf hgo hrst =>
    refine ⟨w, false, ?_⟩
    rw [withWatchdog, ← blinked_with_wdCnt]
    exact .waitBlinks hf hgo hrst
  | attemptGoesOn hf hdone => exact ⟨w, false, .attemptGoesOn hf hdone⟩
  | attemptAborted hf hdone hrst => exact ⟨w, false, .attemptAborted hf hdone hrst⟩
  | attemptSucceeded hf hdone hrst hok => exact ⟨w, false, .attemptSucceeded hf hdone hrst hok⟩
  | attemptFailed hf hdone hrst hok hmore => exact ⟨w, false, .attemptFailed hf hdone hrst hok hmore⟩
  | lastAttemptFailed hf hdone hrst hok hlast => exact ⟨w, false, .lastAttemptFailed hf hdone hrst hok hlast⟩
  | delayAborted hf hrst => exact ⟨w, false, .delayAborted hf hrst⟩
  | delayEnds hf hrst hend => exact ⟨w, false, .delayEnds hf hrst hend⟩
  | delayCounts hf hrst hgoes => exact ⟨w, false, .delayCounts hf hrst hgoes⟩
  | testingEnds hf hrst => exact ⟨w, false, .testingEnds hf hrst⟩
  | frameShown hf hrst hpend hchg =>
    refine ⟨0, false, ?_⟩
    rw [withWatchdog, ← blinked_with_wdCnt]
    exact .frameShown hf hrst hpend hchg
  | frameRepeated hf hrst hpend hchg =>
    refine ⟨0, false, ?_⟩
    rw [withWatchdog, ← blinked_with_wdCnt]
    exact .frameRepeated hf hrst hpend hchg
  | noFrame hf hrst hpend =>
    refine ⟨if i.tick = true then (if w.toNat + 1 ≥ Config.params.watchdogTicks then 0 else w + 1) else w,
      i.tick && decide (w.toNat + 1 ≥ Config.params.watchdogTicks), ?_⟩
    rw [withWatchdog, ← blinked_with_wdCnt]
    exact .noFrame hf hrst hpend

/-- R68, R125: no command reads the watchdog's counter; START overwrites it. -/
theorem portEffect_withWdCnt (s : State) (w : Word) :
    portEffect Config.params (withWdCnt s w) = portEffect Config.params s := rfl

/-- R117: a cycle with another count of the watchdog. -/
theorem eventCycle_withWdCnt (s : State) (w : Word) :
    ∃ w' warn, eventCycle (detectEvents s) (withWdCnt s w) =
      { eventCycle (detectEvents s) s with
        orch := { (eventCycle (detectEvents s) s).orch with wdCnt := w' }
        out := { (eventCycle (detectEvents s) s).out with silenceWarn := warn } } := by
  obtain ⟨w', warn, hrow⟩ := (fsmEffect_row (sample s) s).withWdCnt w
  have hfsm : fsmEffect Config.params (sample s) (withWdCnt s w) =
      withWatchdog (fsmEffect Config.params (sample s) s) w' warn := hrow.fsmEffect_eq
  have hsample : sample (withWdCnt s w) = sample s := rfl
  cases hport : (portEffect Config.params s).orchWrite with
  | none =>
    refine ⟨w', warn, ?_⟩
    simp only [eventCycle, cycle, portEffect_withWdCnt, hsample, hfsm, hport]
    rfl
  | some o =>
    refine ⟨o.wdCnt, warn, ?_⟩
    simp only [eventCycle, cycle, portEffect_withWdCnt, hsample, hfsm, hport]
    rfl

/-- Settles O54: a reset forgets the count, and every other step is a cycle. -/
theorem watchdogInformsOnly : Obligations.WatchdogInformsOnly := by
  intro s t w h
  rcases step_cases s t h with ⟨hr, rfl⟩ | ⟨hr, rfl⟩
  · obtain ⟨w', warn, hcycle⟩ := eventCycle_withWdCnt s w
    exact ⟨w', warn, (step_eq_eventCycle (withWdCnt s w) hr).trans (congrArg _ hcycle)⟩
  · exact ⟨0, false, step_eq_resetCycle (withWdCnt s w) hr⟩

/-! ### The inputs of the FSM -/

/-- R137: the FSM alone reads `tick`, `flash_done` and `flash_ok`. Where it makes no difference between two values of
them, the step makes none. -/
theorem step_withSample_eq {i j : Input}
    (hj : ∃ tick done ok, j = { i with tick := tick, flashDone := done, flashOk := ok })
    (hfsm : fsmEffect Config.params i s = fsmEffect Config.params j s) :
    step (withSample s i) = step (withSample s j) := by
  have hstate (k : Input) : fsmEffect Config.params k (withSample s k) = fsmEffect Config.params k s := rfl
  obtain ⟨tick, done, ok, hj⟩ := hj
  have hrst : j.rstN = i.rstN := by rw [hj]
  cases hr : i.rstN with
  | true =>
    rw [step_eq_eventCycle (withSample s i) hr, step_eq_eventCycle (withSample s j) (hrst.trans hr)]
    simp only [eventCycle, cycle, sample_withSample, hstate, hfsm]
    rw [hj]
    rfl
  | false =>
    rw [step_eq_resetCycle (withSample s i) hr, step_eq_resetCycle (withSample s j) (hrst.trans hr)]
    rfl

/-- R118: `flash_done` and `flash_ok` are read in `BURN_FLASH`. -/
theorem fsmEffect_flasher_unread (hf : s.orch.fsm ≠ .burnFlash) (p : Params) (i : Input) (done ok : Bool) :
    fsmEffect p i s = fsmEffect p { i with flashDone := done, flashOk := ok } s := by
  cases hs : s.orch.fsm with
  | burnFlash => exact absurd hs hf
  | _ => simp only [fsmEffect, hs] <;> rfl

/-- R118: `flash_ok` is read with `flash_done`. -/
theorem fsmEffect_flashOk_unread (hdone : i.flashDone = false) (p : Params) (s : State) (ok : Bool) :
    fsmEffect p i s = fsmEffect p { i with flashOk := ok } s := by
  by_cases hf : s.orch.fsm = .burnFlash
  · simp [fsmEffect, hf, fsmBurnFlash, hdone]
  · exact fsmEffect_flasher_unread hf p i i.flashDone ok

/-- R137: the states that use a timer read `tick`. -/
theorem fsmEffect_tick_unread
    (hf : s.orch.fsm = .idle ∨ s.orch.fsm = .burnFlash ∨ s.orch.fsm = .done ∨ s.orch.fsm = .unused) (p : Params)
    (i : Input) (b : Bool) : fsmEffect p i s = fsmEffect p { i with tick := b } s := by
  rcases hf with hf | hf | hf | hf
  · simp [fsmEffect, hf]
  · simp only [fsmEffect, hf]
    rfl
  · simp [fsmEffect, hf]
  · simp [fsmEffect, hf]

/-- Settles O55: in each of the three cases the FSM's contribution is the same. -/
theorem inputsReadOnlyWhereUsed : Obligations.InputsReadOnlyWhereUsed :=
  ⟨fun _ i done ok hf => step_withSample_eq ⟨_, _, _, rfl⟩ (fsmEffect_flasher_unread hf _ i done ok),
    fun s _ ok hdone => step_withSample_eq ⟨_, _, _, rfl⟩ (fsmEffect_flashOk_unread hdone _ s ok),
    fun _ i b hf => step_withSample_eq ⟨_, _, _, rfl⟩ (fsmEffect_tick_unread hf _ i b)⟩

end Sys2Proof.Proofs
end

section
/-! SUPPORT. Proofs of the statements about the Orchestration's commands: NOP (R127) and STAT (R126), which only answer,
and START (R125), which writes the session's registers in place of the FSM. -/

namespace Sys2Proof.Proofs

open Sys2Proof.Machine Sys2Proof.Safety Sys2Proof.Laws

/-- Settles O20: NOP is not mutating. -/
theorem nopOnlyAnswers : Obligations.NopOnlyAnswers :=
  ⟨encodedAs_of_decodeOpcode (by decide) fun _ _ => rfl, fun _ => exec_of_not_mutating rfl rfl⟩

/-- R139, R140: at reset every field of the status word is 0. -/
theorem statusWord_reset (p : Params) : statusWord p State.reset = 0x00000000 := by
  have hled : led p State.reset = 0x00 := rfl
  rw [statusWord, hled]
  decide

/-- Settles O28: STAT is not mutating, and the two zero fields are among those of R68. -/
theorem statAnswersStatusWord : Obligations.StatAnswersStatusWord := by
  refine ⟨encodedAs_of_decodeOpcode (by decide) fun _ _ => rfl, statusWord_reset _, fun s => ?_,
    fun _ => exec_of_not_mutating rfl rfl⟩
  obtain ⟨-, -, -, -, -, -, -, hzero, -, -⟩ := statusWord_bits Config.params s
  obtain ⟨-, -, -, hzeros, -⟩ := statusWord_fields Config.params s
  exact ⟨hzero, hzeros⟩

/-! ### START -/

section
variable {s : State} (ha : sessionActive s = false)
include ha

/-- R83, R125: outside a session a cycle that disables the sampler keeps the accumulator of the quiet cycle: the bus
events of the cycle still act. -/
theorem quiet_sampler_disabled :
    { (quiet s).sampler with en := false } =
      ({ acc := nextAcc (detectEvents s) s.sampler false, en := false } : Sampler) := by
  rw [quiet_sampler_of_inactive ha]
  cases hen : s.sampler.en with
  | false => rfl
  | true => simp [nextAcc_of_enabled hen]

/-- R125: what an accepted START makes of its cycle. -/
theorem exec_start (skip go : Bool) :
    exec (.start skip go) s = .next { quiet s with
      sampler := { (quiet s).sampler with en := false }
      latches := { goL := (detectEvents s).goRise, rstL := (detectEvents s).rstFall }
      orch := startSession skip go s.orch
      rsp := { valid := true, data := 0, err := .ok } } := by
  have heff : commandEffect Config.params (.start skip go) s = { reply 0 with
      goClr := true, rstClr := true, enWrite := some false, orchWrite := some (startSession skip go s.orch) } :=
    ifOwner_of_inactive ha _
  have hlatches : nextLatches (detectEvents s) true true s.latches =
      { goL := (detectEvents s).goRise, rstL := (detectEvents s).rstFall } := by simp [nextLatches_eq]
  rw [exec_command rfl, heff, quiet_sampler_disabled ha, ← hlatches]
  rfl

end

/-- R64: START has no word with `rsv` other than 0. -/
theorem commandOf_of_rsv {w : CommandWord} (h : rsvField w ≠ 0) : commandOf w = none :=
  (commandOf_eq_none_iff w).2 (.inr (.inl h))

/-- Settles O30: START is performed outside a session and refused inside one. -/
theorem startBeginsSession : Obligations.StartBeginsSession :=
  ⟨fun _ _ => rfl, fun _ _ hrsv => commandOf_of_rsv hrsv, fun skip go _ ha => exec_start ha skip go,
    fun _ _ _ ha => exec_refused rfl rfl ha⟩

end Sys2Proof.Proofs
end

section
/-! SUPPORT. Proofs of the statements that stand in the place of a trap mechanism: no cycle faults (R128), and a defined
command is refused only as a mutating one inside a session (R130, R132). -/

namespace Sys2Proof.Proofs

open Sys2Proof.Machine Sys2Proof.Safety Sys2Proof.Laws

variable {ev : Events} {c : Option Instr} {s t : State}

/-- R63: the mutating rows are commands. -/
theorem isCommand_of_mutating {i : Instr} (hm : i.mutating = true) : i.isCommand = true := by
  cases i with
  | clkRise | latchRise | goRise | resetFall => cases hm
  | _ => rfl

/-- R66: where no mutating command is presented, the command port writes the response registers alone. -/
theorem respondOnly_of_cycle (h : Safety.Cycle ev c s t) (hno : ∀ i, c = some i → i.mutating = false) :
    ∃ r, t = cycle Config.params ev (respondOnly r) s := by
  rcases cycle_cases ev c s t h with ⟨r, ht, -⟩ | ⟨-, j, eff, hj, -, heff⟩
  · exact ⟨r, ht⟩
  · have hm : j.mutating = false := hno j hj
    rcases heff with ⟨rfl, -⟩ | ⟨rfl, -⟩ | ⟨rfl, -⟩ | ⟨rfl, -⟩ | ⟨rfl, -⟩ | ⟨skip, go, rfl, -⟩ <;> cases hm

/-- R45: without a clear `pending` is kept or set. -/
theorem nextStore_no_clear_pending (ev : Events) (s : State) :
    (nextStore (captured ev s.sampler) false s.store).pending = (captures ev s || s.store.pending) := by
  simp [nextStore, mergeFlag_no_clear, captured_isSome]

/-- R36: outside a session neither the FSM nor a port that only answers writes the enable or clears a flag. -/
theorem consumerFields_of_respondOnly (ha : sessionActive s = false) (ev : Events) (r : Response) :
    (cycle Config.params ev (respondOnly r) s).sampler.en = s.sampler.en ∧
    (cycle Config.params ev (respondOnly r) s).store = nextStore (captured ev s.sampler) false s.store ∧
    (cycle Config.params ev (respondOnly r) s).latches = nextLatches ev false false s.latches := by
  simp [fsmEffect_inactive _ _ _ ha, nextEn]

/-- Settles O8: a step runs its cycle or resets, and each instruction runs its cycle. -/
theorem everyCycleHasNextState : Obligations.EveryCycleHasNextState := by
  refine ⟨fun s => ?_, fun i s => ⟨_, exec_eq_cycle i s⟩⟩
  cases hr : (sample s).rstN with
  | true => exact ⟨_, step_eq_eventCycle s hr⟩
  | false => exact ⟨_, step_eq_resetCycle s hr⟩

/-- Settles O18: the guard of R132 is the same for all mutating commands. -/
theorem busyCommandOnlyAnswers : Obligations.BusyCommandOnlyAnswers :=
  fun _ _ hm ha => exec_refused (isCommand_of_mutating hm) hm ha

/-- Settles O19: outside a session a flag without a clear from the port or the FSM keeps its value or is set. -/
theorem ownershipOutsideSession : Obligations.OwnershipOutsideSession := by
  refine ⟨fun _ _ hc hm => exec_of_not_mutating hc hm, fun ev c s t h ha hno => ?_⟩
  obtain ⟨r, rfl⟩ := respondOnly_of_cycle h hno
  obtain ⟨hen, hstore, hlatches⟩ := consumerFields_of_respondOnly ha ev r
  rw [hen, hstore, hlatches, nextStore_no_clear_pending, nextLatches_eq]
  exact ⟨rfl, rfl, rfl, rfl⟩

end Sys2Proof.Proofs
end

section
/-! SUPPORT. Proofs of the statements about the reset: the state it loads (R139) and its outputs (R140), the warm-up
after it (R144), and the latency of the pins (R145). Two cycles carry a level from the pin to the edge detector. -/

namespace Sys2Proof.Proofs

open Sys2Proof.Machine Sys2Proof.Safety Sys2Proof.Laws

/-! ### The reset state -/

theorem eq_resetCycle_of_step {s t : State} (hrst : (sample s).rstN = false) (h : step s = .next t) :
    t = resetCycle s := by
  rw [step_eq_resetCycle s hrst] at h
  cases h
  rfl

/-- Settles O9: the reset cycle depends on the state in the samples to come alone. -/
theorem resetCycleLoadsResetState : Obligations.ResetCycleLoadsResetState :=
  fun s hrst => ⟨resetCycle s, step_eq_resetCycle s hrst, rfl, rfl, rfl, rfl, rfl, rfl, rfl, rfl⟩

/-- Settles O10, by evaluation: in `IDLE` the indicator is off, so that no output reads the parameters. -/
theorem resetStateOutputs : Obligations.ResetStateOutputs := fun _ => rfl

/-! ### From the pins to the edge detectors -/

/-- R15, R59: the event signals of two neighbouring samples of the pins, the earlier one in the first stages of `r` and
the later one in `i`. -/
def pinEdges (r : SyncRegs) (i : Input) : Events :=
  { rstFall := !i.resetIn && r.rstS0
    goRise := i.goIn && !r.goS0
    latchRise := i.busLatch && !r.latS0
    clkRise := i.busClock && !r.clkS0
    dataBit := i.busData }

/-- R17: two cycles after the first one of the warm-up, the edge detectors are armed. -/
theorem nextArm_nextArm (a : BitVec 2) (h : a ≠ 0) : nextArm (nextArm a) = Config.armCycles := by
  have all : ∀ a : BitVec 2, a ≠ 0 → nextArm (nextArm a) = Config.armCycles := by decide
  exact all a h

theorem sync_of_step {s t : State} (hrst : (sample s).rstN = true) (h : step s = .next t) :
    t.sync = nextSync (sample s) s.sync :=
  sync_of_cycle (cycle_of_step hrst h)

/-- R15, R16, R59: two cycles move the first stages of `s` to the edge detectors, and its sample to the second
stages. -/
theorem detectEvents_of_two_steps {s t u : State} (harm : s.sync.arm ≠ 0) (hs : (sample s).rstN = true)
    (ht : (sample t).rstN = true) (hst : step s = .next t) (htu : step t = .next u) :
    detectEvents u = pinEdges s.sync (sample s) := by
  have hsync : u.sync = nextSync (sample t) (nextSync (sample s) s.sync) := by
    rw [sync_of_step ht htu, sync_of_step hs hst]
  simp [detectEvents, pinEdges, hsync, nextSync, nextArm_nextArm _ harm]

/-- R17, R59: before the warm-up's end no edge is detected. -/
theorem decodeEvents_of_unarmed {s : State} (harm : s.sync.arm ≠ Config.armCycles) :
    decodeEvents (eventsToVector (detectEvents s)) = [] := by
  refine List.eq_nil_iff_forall_not_mem.2 fun i hi => ?_
  simp [mem_decodeEvents, detectEvents, harm] at hi

/-- Settles O58: two cycles bring the pins to the edge detectors, and in the next one an edge wins over every clear of
its latch. -/
theorem pinEdgeLatency : Obligations.PinEdgeLatency := by
  intro s0 s1 s2 s3 harm h0 h1 h2 h01 h12 h23
  have hev := detectEvents_of_two_steps harm h0 h1 h01 h12
  obtain ⟨-, hgo, hreset⟩ := setWinsOverClear _ _ _ _ (cycle_of_step h2 h23)
  rw [hev] at hgo hreset ⊢
  exact ⟨rfl, rfl, rfl, rfl, rfl, fun hpin hold => hgo.2 (.inl (by simp [pinEdges, hpin, hold])),
    fun hpin hold => hreset.2 (.inl (by simp [pinEdges, hpin, hold]))⟩

/-- Settles O59: `arm` is 0, 1 and 2 in the first three cycles, and two cycles after the second one the detectors
show the edges between its first stages, which hold the first sample, and its own. -/
theorem warmUpDetectsNothing : Obligations.WarmUpDetectsNothing := by
  intro s s0 s1 s2 s3 hs h0 h1 h2 hs0 h01 h12 h23
  have hsync0 : s0.sync = State.reset.sync := by rw [eq_resetCycle_of_step hs hs0, resetCycle_sync]
  have hsync1 : s1.sync = nextSync (sample s0) State.reset.sync := by rw [sync_of_step h0 h01, hsync0]
  have harm1 : s1.sync.arm = 1 := by rw [hsync1]; rfl
  have harm2 : s2.sync.arm = 2 := by rw [sync_of_step h1 h12, nextSync, harm1]; rfl
  have hev := detectEvents_of_two_steps (by rw [harm1]; decide) h1 h2 h12 h23
  rw [hev, hsync1]
  exact ⟨decodeEvents_of_unarmed (by rw [hsync0]; decide), decodeEvents_of_unarmed (by rw [harm1]; decide),
    decodeEvents_of_unarmed (by rw [harm2]; decide), rfl, rfl, rfl, rfl⟩

end Sys2Proof.Proofs
end
